-- ==== Sys2Proof/Word.lean ====
section
/-! DEFINITION. The byte of the links and the three operand types the commands carry. -/

namespace Sys2Proof

/-- A byte of the Control Link or of the scanner port (R189). -/
abbrev Byte := BitVec 8

/-- The two sides of the drum, and the two depth channels (chapter 3). -/
inductive Side where
  | L
  | R
deriving DecidableEq, Repr

/-- The other side. -/
def Side.other : Side → Side
  | .L => .R
  | .R => .L

/-- The two encoder inputs (R1). -/
inductive Encoder where
  | travel
  | belt
deriving DecidableEq, Repr

/-- A segment of the depth plan (table of section 2.1): it covers drum chainages
`[start, start + length)` (R17). Depths are in 0.1 mm. -/
structure Segment where
  start  : Int
  length : Int
  l0     : Int
  l1     : Int
  r0     : Int
  r1     : Int
  cut    : Bool
  load   : Bool
  detect : Bool
deriving DecidableEq, Repr

end Sys2Proof
end

