-- ==== Sys2Proof/Config.lean ====
section
/-! DEFINITION. The constants of the part and the values its manual leaves open.

The opaque constants have no body: no proof can see what they are, so a claim holds whatever they are. -/

namespace Sys2Proof.Config

/-- The part code (R198). -/
def partCode : Int := 620

/-- The protocol revision (R198). -/
def protocolRevision : Int := 1

/-- The chainage limit, in mm (R4, R5). -/
def chainageLimit : Int := 1000000000

/-- The greatest value of a counter of section 8.1 and of the belt pulse count (R7, R144). -/
def counterMax : Nat := 9223372036854775807

/-- The greatest value of the 4-byte counters of SPR and CLP (R114, section 11.1). -/
def count32Max : Nat := 4294967295

/-- The greatest value of a 2-byte saturating or wrapping count. -/
def count16Max : Nat := 65535

/-- DESIGN CHOICE (log entry 12): the `n`-th free value. R113 carries the line average of the latest line, and R109 gives
none when every unmasked cell of the line is VOID. -/
opaque freeWord : Nat → BitVec 16

/-- DESIGN CHOICE (log entry 13): the two bytes that carry a speed which does not fit them (R6, R202). -/
opaque speedCode : Int → BitVec 16

/-- DESIGN CHOICE (log entry 14): the code of an item's class in the GET_PARAM reply, by the class's place in the list of
chapter 10. R202's enumeration table has no row for it. -/
opaque classCode : Nat → BitVec 8

end Sys2Proof.Config
end

