-- ==== Sys2Proof/Syntax.lean ====
section
/-! DEFINITION. The commands of the ZMC-620: one constructor per row of the table of operations and events.

A request row carries its tag and the payload fields of section 11.8. An enumeration, a side, a yes/no or an on/off field
is the code as it was sent (a number), because a code outside its table is refused by the owning rule (R202). -/

namespace Sys2Proof

/-- The operations and events of the part, one constructor per row of spec/opcode_table.json. -/
inductive Instr where
  /-- POWER_ON_RESET (R201): supply is applied. -/
  | powerOnReset
  /-- RESTART (R200). -/
  | restart (tag : Byte)
  /-- E_STOP_ASSERTED (R51, R90, R176). -/
  | eStopAsserted
  /-- E_STOP_RELEASED (R90, R176). -/
  | eStopReleased
  /-- QUALIFIED_TRAVEL_PULSE (R3), with the level of the direction line sampled at the pulse. -/
  | qualifiedTravelPulse (forward : Bool)
  /-- QUALIFIED_BELT_PULSE (R7). -/
  | qualifiedBeltPulse
  /-- PULSE_REJECTED (R1): the falling edge that ends a high phase of `highUs` microseconds. -/
  | pulseRejected (input : Encoder) (highUs : Nat)
  /-- SPEED_INTERVAL (R6). -/
  | speedInterval
  /-- VOLUME_STEP (R142). -/
  | volumeStep
  /-- BELT_STEP (R149). -/
  | beltStep
  /-- LOOP_CYCLE (R56) of one channel, with the raw counts on its three current-loop inputs. -/
  | loopCycle (side : Side) (plate leg slope : Nat)
  /-- JOG_EXPIRY (R48). -/
  | jogExpiry (side : Side)
  /-- SPLICE_STEP (R34). -/
  | spliceStep
  /-- SPLICE_FINAL_STEP (R35). -/
  | spliceFinalStep
  /-- SCAN_TRIGGER (R99), with the chainage it carries (R11). -/
  | scanTrigger (c : Int)
  /-- IDLE_TRIGGER (R100). -/
  | idleTrigger
  /-- LINE_ARRIVAL (R101): bytes received on the scanner port (R95). -/
  | lineArrival (bytes : List Byte)
  /-- SCANNER_FRAME_GAP (R95). -/
  | scannerFrameGap
  /-- LINE_TIMEOUT (R102). -/
  | lineTimeout
  /-- LINE_COMPLETION (R104). -/
  | lineCompletion
  /-- VALID_FRAME (R191): bytes received on the Control Link (R190). -/
  | validFrame (bytes : List Byte)
  /-- GAP_DISCARD (R190). -/
  | gapDiscard
  /-- TRANSMIT_END (R193). -/
  | transmitEnd
  /-- LINK_SILENCE (R197). -/
  | linkSilence
  /-- TELEMETRY_PERIOD (R196). -/
  | telemetryPeriod
  /-- UNKNOWN_KIND (R192): a request whose kind names no request. -/
  | unknownKind (tag kind : Byte)
  /-- SET_DATUM (R13, R14). -/
  | setDatum (tag : Byte) (c : Int)
  /-- STAGE_SEGMENTS (R28). -/
  | stageSegments (tag : Byte) (segs : List Segment)
  /-- STAGE_CLEAR (R29). -/
  | stageClear (tag : Byte)
  /-- SPLICE (R32). -/
  | splice (tag : Byte) (a b : Int)
  /-- SPLICE_RESUME (R37). -/
  | spliceResume (tag : Byte)
  /-- SPLICE_ABORT (R38). -/
  | spliceAbort (tag : Byte)
  /-- PLAN_CLEAR (R41). -/
  | planClear (tag : Byte)
  /-- GET_PLAN (R42). -/
  | getPlan (tag : Byte) (first count : Nat)
  /-- ADD_MARKER (R78). -/
  | addMarker (tag : Byte) (m : Int) (lead trail : Nat)
  /-- REMOVE_MARKER (R81). -/
  | removeMarker (tag : Byte) (id : Nat)
  /-- GET_MARKERS (R82). -/
  | getMarkers (tag : Byte) (first count : Nat)
  /-- LIFT (R87). -/
  | lift (tag : Byte)
  /-- RETURN (R88). -/
  | returnDrum (tag : Byte)
  /-- SELECT_TARGET (R53). -/
  | selectTarget (tag : Byte) (source : Nat)
  /-- SET_POINT (R54). -/
  | setPoint (tag : Byte) (side mode : Nat) (depth slope : Int)
  /-- SET_TRIM (R55). -/
  | setTrim (tag : Byte) (side : Nat) (trim : Int)
  /-- ENGAGE (R45). -/
  | engage (tag : Byte) (side : Nat)
  /-- DISENGAGE (R46). -/
  | disengage (tag : Byte) (side : Nat)
  /-- JOG (R47). -/
  | jog (tag : Byte) (side : Nat) (valve : Int) (duration : Nat)
  /-- SCAN_ENABLE_ON (R97): SCAN_ENABLE with the argument on. -/
  | scanEnableOn (tag : Byte)
  /-- SCAN_ENABLE_OFF (R98): SCAN_ENABLE with the argument off. -/
  | scanEnableOff (tag : Byte)
  /-- SET_CELL_MASK (R106): bit n of the set names cell n. -/
  | setCellMask (tag : Byte) (cells : BitVec 16)
  /-- GET_PROFILE (R113). -/
  | getProfile (tag : Byte)
  /-- TAKE_REFERENCE (R121). -/
  | takeReference (tag : Byte)
  /-- CLEAR_FLAGS (R135): bit n of the set names flag n. -/
  | clearFlags (tag : Byte) (flags : BitVec 16)
  /-- ARM_FAULT (R137). -/
  | armFault (tag : Byte) (arm : Nat)
  /-- GET_FAULT (R140). -/
  | getFault (tag : Byte)
  /-- COUNTERS_RESET (R145). -/
  | countersReset (tag : Byte)
  /-- GET_LOADING (R156). -/
  | getLoading (tag : Byte) (first count : Nat)
  /-- TRUCK_ADD (R162). -/
  | truckAdd (tag : Byte) (id target : Nat)
  /-- TRUCK_IN_POSITION (R163). -/
  | truckInPosition (tag : Byte) (id : Nat)
  /-- TRUCK_AWAY (R164). -/
  | truckAway (tag : Byte) (id : Nat)
  /-- TRUCK_REMOVE (R165). -/
  | truckRemove (tag : Byte) (id : Nat)
  /-- CONVEYOR_START (R167). -/
  | conveyorStart (tag : Byte)
  /-- CONVEYOR_STOP (R171). -/
  | conveyorStop (tag : Byte)
  /-- SET_PARAM (R180). -/
  | setParam (tag : Byte) (item : Nat) (value : Int)
  /-- GET_PARAM (R187). -/
  | getParam (tag : Byte) (item : Nat)
  /-- LOCK_ENVELOPE (R183). -/
  | lockEnvelope (tag : Byte)
  /-- SET_CAL_OPEN (R184). -/
  | setCalOpen (tag : Byte) (arg : Nat)
  /-- ZERO_SENSOR (R185). -/
  | zeroSensor (tag : Byte) (sensor : Nat) (known : Int)
  /-- IDENTIFY (R198). -/
  | identify (tag : Byte)
  /-- GET_STATUS (R199). -/
  | getStatus (tag : Byte) (part : Nat)
  /-- SET_REPORTING (R195): bit n of the set names the report kind of mask bit n. -/
  | setReporting (tag : Byte) (kinds : BitVec 16)
  /-- RISING_EDGE (R1): a high phase begins on an encoder input. -/
  | risingEdge (input : Encoder)
  /-- FRAME_START (R190): a byte 0x5A is received on the Control Link. -/
  | frameStart
  /-- FRAME_LENGTH_ERROR (R190): a byte above 248 is received on the Control Link. -/
  | frameLengthError (len : Byte)
deriving DecidableEq, Repr

end Sys2Proof
end

