-- ==== Sys2Proof/WellFormed.lean ====
section
/-! DEFINITION. Well-formed commands: every operand fits the field that carries it (section 11.8, R189, R57).

A well-formed command may still be refused by its owner's checks; these checks only say that the operand exists on the
wire or on the input. -/

namespace Sys2Proof

/-- A signed field of two bytes. -/
def fitsSigned16 (x : Int) : Bool := decide (-32768 ≤ x) && decide (x ≤ 32767)

/-- A signed field of four bytes. -/
def fitsSigned32 (x : Int) : Bool := decide (-2147483648 ≤ x) && decide (x ≤ 2147483647)

/-- An unsigned field of one byte. -/
def fitsByte (n : Nat) : Bool := decide (n < 256)

/-- An unsigned field of two bytes. -/
def fitsWord (n : Nat) : Bool := decide (n < 65536)

/-- A raw count of a current-loop input (R57). -/
def fitsCount (n : Nat) : Bool := decide (n ≤ 4095)

/-- The segment record of section 11.8: start (4, signed), length (4), four depths (2 each). -/
def Segment.fits (g : Segment) : Bool :=
  fitsSigned32 g.start && decide (0 ≤ g.length) && decide (g.length < 4294967296) &&
  fitsSigned16 g.l0 && fitsSigned16 g.l1 && fitsSigned16 g.r0 && fitsSigned16 g.r1

/-- The kinds of the table of request kinds (section 11.8). -/
def requestKinds : List Nat :=
  [0x01, 0x10, 0x11, 0x12, 0x13, 0x14, 0x15, 0x16, 0x18, 0x19, 0x1A, 0x1B, 0x1C,
   0x20, 0x21, 0x22, 0x23, 0x24, 0x25, 0x28, 0x29, 0x2A, 0x2B, 0x30, 0x31, 0x32, 0x38, 0x39] ++
  [0x40, 0x41, 0x42, 0x43, 0x44, 0x45, 0x48, 0x49, 0x4A, 0x4B, 0x4C, 0x70, 0x71, 0x72, 0x73]

/-- A request kind below 0x80 that names no request (R191). -/
def namesNoRequest (kind : Byte) : Bool :=
  decide (kind.toNat < 0x80) && !requestKinds.contains kind.toNat

/-- The command's operands fit their fields. -/
def Instr.wf : Instr → Bool
  | .powerOnReset => true
  | .restart _ => true
  | .eStopAsserted => true
  | .eStopReleased => true
  | .qualifiedTravelPulse _ => true
  | .qualifiedBeltPulse => true
  | .pulseRejected _ _ => true
  | .speedInterval => true
  | .volumeStep => true
  | .beltStep => true
  | .loopCycle _ p l s => fitsCount p && fitsCount l && fitsCount s
  | .jogExpiry _ => true
  | .spliceStep => true
  | .spliceFinalStep => true
  | .scanTrigger c => decide (-1000000000 ≤ c) && decide (c ≤ 1000000000)
  | .idleTrigger => true
  | .lineArrival _ => true
  | .scannerFrameGap => true
  | .lineTimeout => true
  | .lineCompletion => true
  | .validFrame _ => true
  | .gapDiscard => true
  | .transmitEnd => true
  | .linkSilence => true
  | .telemetryPeriod => true
  | .unknownKind _ k => namesNoRequest k
  | .setDatum _ c => fitsSigned32 c
  | .stageSegments _ gs => decide (gs.length ≤ 8) && gs.all Segment.fits
  | .stageClear _ => true
  | .splice _ a b => fitsSigned32 a && fitsSigned32 b
  | .spliceResume _ => true
  | .spliceAbort _ => true
  | .planClear _ => true
  | .getPlan _ f n => fitsByte f && fitsByte n
  | .addMarker _ m l t => fitsSigned32 m && fitsWord l && fitsWord t
  | .removeMarker _ i => fitsByte i
  | .getMarkers _ f n => fitsByte f && fitsByte n
  | .lift _ => true
  | .returnDrum _ => true
  | .selectTarget _ x => fitsByte x
  | .setPoint _ s m d c => fitsByte s && fitsByte m && fitsSigned16 d && fitsSigned16 c
  | .setTrim _ s x => fitsByte s && fitsSigned16 x
  | .engage _ s => fitsByte s
  | .disengage _ s => fitsByte s
  | .jog _ s v d => fitsByte s && fitsSigned16 v && fitsWord d
  | .scanEnableOn _ => true
  | .scanEnableOff _ => true
  | .setCellMask _ _ => true
  | .getProfile _ => true
  | .takeReference _ => true
  | .clearFlags _ _ => true
  | .armFault _ x => fitsByte x
  | .getFault _ => true
  | .countersReset _ => true
  | .getLoading _ f n => fitsByte f && fitsByte n
  | .truckAdd _ i t => fitsWord i && fitsWord t
  | .truckInPosition _ i => fitsWord i
  | .truckAway _ i => fitsWord i
  | .truckRemove _ i => fitsWord i
  | .conveyorStart _ => true
  | .conveyorStop _ => true
  | .setParam _ i v => fitsByte i && fitsSigned32 v
  | .getParam _ i => fitsByte i
  | .lockEnvelope _ => true
  | .setCalOpen _ x => fitsByte x
  | .zeroSensor _ x v => fitsByte x && fitsSigned32 v
  | .identify _ => true
  | .getStatus _ p => fitsByte p
  | .setReporting _ _ => true
  | .risingEdge _ => true
  | .frameStart => true
  | .frameLengthError b => decide (248 < b.toNat)

end Sys2Proof
end

