-- ==== Sys2Proof/Machine/Records.lean ====
section
/-! DEFINITION. The enumerations of section 11.8 and the records the blocks hold. Every `code` is the code of the
enumeration table of R202. -/

namespace Sys2Proof.Machine

/-! ### The depth plan (chapter 2) -/

/-- Dispositions (R19). -/
inductive Disposition where
  | mill
  | windrow
  | clear
  | travel
deriving DecidableEq, Repr

def Disposition.code : Disposition → Nat
  | .mill => 0
  | .windrow => 1
  | .clear => 2
  | .travel => 3

/-- The two values of the item DEFAULT_DISPOSITION (R21). -/
inductive DefaultDisposition where
  | hold
  | travel
deriving DecidableEq, Repr

def DefaultDisposition.code : DefaultDisposition → Nat
  | .hold => 0
  | .travel => 1

/-- Splice states (section 2.7). -/
inductive SpliceState where
  | idle
  | running
  | suspended
deriving DecidableEq, Repr

def SpliceState.code : SpliceState → Nat
  | .idle => 0
  | .running => 1
  | .suspended => 2

/-- Last splice events (section 2.7). -/
inductive SpliceEvent where
  | none
  | accepted
  | suspended
  | resumed
  | done
  | aborted
deriving DecidableEq, Repr

def SpliceEvent.code : SpliceEvent → Nat
  | .none => 0
  | .accepted => 1
  | .suspended => 2
  | .resumed => 3
  | .done => 4
  | .aborted => 5

/-- The result of a plan lookup (R20). -/
structure Lookup where
  covered     : Bool
  disposition : Disposition
  left        : Option Int
  right       : Option Int
  detect      : Bool
deriving DecidableEq, Repr

/-! ### Depth channels (chapter 3) -/

/-- Channel states (R44). -/
inductive ChannelState where
  | off
  | jog
  | auto
  | held
deriving DecidableEq, Repr

def ChannelState.code : ChannelState → Nat
  | .off => 0
  | .jog => 1
  | .auto => 2
  | .held => 3

/-- Side modes (R54). -/
inductive SideMode where
  | depth
  | slope
deriving DecidableEq, Repr

def SideMode.code : SideMode → Nat
  | .depth => 0
  | .slope => 1

/-- Target sources (R53). -/
inductive Target where
  | plan
  | set
deriving DecidableEq, Repr

def Target.code : Target → Nat
  | .plan => 0
  | .set => 1

/-- The control a channel uses (R60). -/
inductive Control where
  | depth
  | slope
deriving DecidableEq, Repr

/-! ### Markers and the lift (chapter 4) -/

/-- Marker states (R76). -/
inductive MarkerState where
  | armed
  | active
  | passed
deriving DecidableEq, Repr

def MarkerState.code : MarkerState → Nat
  | .armed => 0
  | .active => 1
  | .passed => 2

/-- Marker origins (R76). -/
inductive Origin where
  | machine
  | scanner
deriving DecidableEq, Repr

def Origin.code : Origin → Nat
  | .machine => 0
  | .scanner => 1

/-- A marker (R76). -/
structure Marker where
  id     : Nat
  m      : Int
  lead   : Int
  trail  : Int
  origin : Origin
  state  : MarkerState
deriving DecidableEq, Repr

/-- Kinds of marker event (R92). -/
inductive MarkerEventKind where
  | none
  | added
  | created
  | extended
  | removed
  | passedOut
  | lost
deriving DecidableEq, Repr

def MarkerEventKind.code : MarkerEventKind → Nat
  | .none => 0
  | .added => 1
  | .created => 2
  | .extended => 3
  | .removed => 4
  | .passedOut => 5
  | .lost => 6

/-- The last marker event (R92). -/
structure MarkerEvent where
  kind   : MarkerEventKind
  id     : Nat
  m      : Int
  lead   : Int
  trail  : Int
  origin : Origin
deriving DecidableEq, Repr

/-- The lift-cause set (R85). -/
structure LiftCauses where
  manual : Bool
  plan   : Bool
  window : Bool
deriving DecidableEq, Repr

/-- The empty lift-cause set. -/
def LiftCauses.empty : LiftCauses := ⟨false, false, false⟩

/-- The set holds at least one cause. -/
def LiftCauses.nonEmpty (c : LiftCauses) : Bool := c.manual || c.plan || c.window

/-! ### The scanner port and the detector (chapters 5 and 6) -/

/-- The mark of a line (section 5.1). -/
inductive LineMark where
  | newGround
  | idle
deriving DecidableEq, Repr

def LineMark.code : LineMark → Nat
  | .newGround => 0
  | .idle => 1

/-- One point of a line: a range in 0.1 mm and a strength (R96). -/
structure Point where
  range    : Nat
  strength : Nat
deriving DecidableEq, Repr

/-- The awaited trigger (R99), with the milliseconds since it was sent (R102). -/
structure Awaited where
  number : Nat
  scanAt : Int
  mark   : LineMark
  waited : Nat
deriving DecidableEq, Repr

/-- A line held in the line buffer (R103). -/
structure Line where
  number : Nat
  scanAt : Int
  mark   : LineMark
  points : List Point
deriving DecidableEq, Repr

/-- One cell of a reduced line (R105); `signature` is absent when the cell is VOID. -/
structure Cell where
  signature : Option Nat
  valid     : Nat
  masked    : Bool
  standing  : Bool
deriving DecidableEq, Repr

/-- The latest cell record (R104, R113). -/
structure CellRecord where
  number   : Nat
  scanAt   : Int
  mark     : LineMark
  fouled   : Bool
  low      : Bool
  lineAvg  : Nat
  strength : Nat
  cells    : List Cell
deriving DecidableEq, Repr

/-- A published ski surface with the instant of its line's completion (R107). -/
structure Ski where
  surface : Int
  instant : Nat
deriving DecidableEq, Repr

/-- Reference modes (R119 to R121). -/
inductive RefMode where
  | rolling
  | stepped
  | held
deriving DecidableEq, Repr

def RefMode.code : RefMode → Nat
  | .rolling => 0
  | .stepped => 1
  | .held => 2

/-- Detector states (R127). -/
inductive DetState where
  | quiet
  | counting
  | tripped
deriving DecidableEq, Repr

def DetState.code : DetState → Nat
  | .quiet => 0
  | .counting => 1
  | .tripped => 2

/-- An entry of the signature history (R117). -/
structure HistEntry where
  sigs   : List (Option Nat)
  scanAt : Int
deriving DecidableEq, Repr

/-- The held reference (R120, R121). -/
structure Reference where
  sigs   : List (Option Nat)
  number : Nat
  scanAt : Int
deriving DecidableEq, Repr

/-! ### Computation status (chapter 7) -/

/-- The thirteen sticky flags (section 7.1). -/
inductive Flag where
  | lSat
  | lSrcLoss
  | lClamp
  | rSat
  | rSrcLoss
  | rClamp
  | merge
  | beltOver
  | spill
  | stall
  | scanOverrun
  | chainageLimit
  | lockedWrite
deriving DecidableEq, Repr

/-- The place of a flag in the flag set (R202). -/
def Flag.code : Flag → Nat
  | .lSat => 0
  | .lSrcLoss => 1
  | .lClamp => 2
  | .rSat => 3
  | .rSrcLoss => 4
  | .rClamp => 5
  | .merge => 6
  | .beltOver => 7
  | .spill => 8
  | .stall => 9
  | .scanOverrun => 10
  | .chainageLimit => 11
  | .lockedWrite => 12

/-- The source of a fault locus (R138). -/
inductive LocusSource where
  | chL
  | chR
  | blt
  | tqs
  | spr
  | trc
  | mpr
deriving DecidableEq, Repr

def LocusSource.code : LocusSource → Nat
  | .chL => 0
  | .chR => 1
  | .blt => 2
  | .tqs => 3
  | .spr => 4
  | .trc => 5
  | .mpr => 6

/-- The fault locus (R138). -/
structure Locus where
  flag   : Flag
  source : LocusSource
  drum   : Int
  time   : Nat
deriving DecidableEq, Repr

/-! ### Loading (chapters 8 and 9) -/

/-- A parcel on the belt (section 8.1). -/
structure Parcel where
  vol : Nat
  pos : Nat
deriving DecidableEq, Repr

/-- Truck states (R161). -/
inductive TruckState where
  | waiting
  | inPosition
  | loading
  | full
deriving DecidableEq, Repr

def TruckState.code : TruckState → Nat
  | .waiting => 0
  | .inPosition => 1
  | .loading => 2
  | .full => 3

/-- A truck record (section 9.1): target in litres, fill in cm³. -/
structure Truck where
  id     : Nat
  target : Nat
  fill   : Nat
  state  : TruckState
deriving DecidableEq, Repr

/-- The last full truck record (R170). -/
structure FullTruck where
  id     : Nat
  target : Nat
  fill   : Nat
deriving DecidableEq, Repr

/-- Conveyor states (R166). -/
inductive Conveyor where
  | stopped
  | waiting
  | running
  | topping
  | hold
deriving DecidableEq, Repr

def Conveyor.code : Conveyor → Nat
  | .stopped => 0
  | .waiting => 1
  | .running => 2
  | .topping => 3
  | .hold => 4

/-- The advance permit (R174), in order of increasing restriction. -/
inductive Permit where
  | go
  | slow
  | stop
deriving DecidableEq, Repr

def Permit.code : Permit → Nat
  | .go => 0
  | .slow => 1
  | .stop => 2

/-- The permit reasons (R174). -/
structure PermitReasons where
  estop    : Bool
  link     : Bool
  source   : Bool
  conveyor : Bool
deriving DecidableEq, Repr

/-! ### Parameters (chapter 10) -/

/-- The four classes of item. -/
inductive ItemClass where
  | geometry
  | envelope
  | tuning
  | calibration
deriving DecidableEq, Repr

/-- A ski cell item: its first and its last cell (section 5.1). -/
structure CellRange where
  first : Nat
  last  : Nat
deriving DecidableEq, Repr

/-- The geometry items, each unset or set (ids 1 to 7). -/
structure Geometry where
  w    : Option Int
  dd   : Option Int
  ds   : Option Int
  lb   : Option Int
  cb   : Option Int
  ppm  : Option Int
  bppm : Option Int
deriving DecidableEq, Repr

/-- The envelope items (ids 16 to 24). -/
structure Envelope where
  dmax      : Int
  hLift     : Int
  ru        : Int
  rd        : Int
  vmax      : Int
  smax      : Int
  trimLimit : Int
  vbMax     : Int
  truckMax  : Int
deriving DecidableEq, Repr

/-- The tuning items of the part as a whole (ids 32 to 60). -/
structure Tuning where
  travelFilter : Int
  beltFilter   : Int
  scanPitch    : Int
  defaultDisp  : DefaultDisposition
  bAhead       : Int
  bBehind      : Int
  autoLead     : Int
  autoTrail    : Int
  pointMin     : Int
  skiCellsL    : CellRange
  skiCellsR    : CellRange
  fPercent     : Int
  tf           : Int
  nearLimit    : Int
  nf           : Int
  lineMin      : Int
  nl           : Int
  refMode      : RefMode
  k            : Int
  t            : Int
  ns           : Int
  nc           : Int
  nt           : Int
  swell        : Int
  vbMin        : Int
  lt           : Int
  lp           : Int
  silenceTimeout  : Int
  telemetryPeriod : Int
deriving DecidableEq, Repr

/-- The tuning items of one channel (ids 64 to 69 and 72 to 77). -/
structure ChannelTuning where
  kp   : Int
  db   : Int
  vmin : Int
  tol  : Int
  wSP  : Int
  wSK  : Int
deriving DecidableEq, Repr

/-- Zero and span of one sensor. -/
structure SensorCal where
  zero : Int
  span : Int
deriving DecidableEq, Repr

/-- The calibration items (ids 80 to 91). -/
structure Calibration where
  plateL  : SensorCal
  plateR  : SensorCal
  legL    : SensorCal
  legR    : SensorCal
  slope   : SensorCal
  offsetL : Int
  offsetR : Int
deriving DecidableEq, Repr

/-- Every parameter item (section 10.1). -/
structure Params where
  geo  : Geometry
  env  : Envelope
  tun  : Tuning
  tunL : ChannelTuning
  tunR : ChannelTuning
  cal  : Calibration
deriving DecidableEq, Repr

/-- The five sensors of ZERO_SENSOR (R185). -/
inductive Sensor where
  | plateL
  | plateR
  | legL
  | legR
  | slope
deriving DecidableEq, Repr

/-! ### The Control Link (chapter 11) -/

/-- The nine report kinds (R194, section 11.8). -/
inductive ReportKind where
  | state
  | grade
  | fault
  | truckFull
  | permit
  | marker
  | scanner
  | splice
  | telemetry
deriving DecidableEq, Repr

/-- The mask bit of a report kind; its kind byte is 0xE0 plus this. -/
def ReportKind.code : ReportKind → Nat
  | .state => 0
  | .grade => 1
  | .fault => 2
  | .truckFull => 3
  | .permit => 4
  | .marker => 5
  | .scanner => 6
  | .splice => 7
  | .telemetry => 8

/-- The report kinds in order of their numbers (R193). -/
def ReportKind.all : List ReportKind :=
  [.state, .grade, .fault, .truckFull, .permit, .marker, .scanner, .splice, .telemetry]

/-- Result codes (section 11.8). -/
inductive ResultCode where
  | ok
  | okClamped
  | unknownKind
  | badLength
  | range
  | state
  | locked
  | alreadySet
  | full
  | notFound
  | prot
  | busy
  | notCommissioned
  | estop
  | noSource
  | duplicate
deriving DecidableEq, Repr

def ResultCode.code : ResultCode → Byte
  | .ok => 0x00
  | .okClamped => 0x01
  | .unknownKind => 0x10
  | .badLength => 0x11
  | .range => 0x12
  | .state => 0x13
  | .locked => 0x14
  | .alreadySet => 0x15
  | .full => 0x16
  | .notFound => 0x17
  | .prot => 0x18
  | .busy => 0x19
  | .notCommissioned => 0x1A
  | .estop => 0x1B
  | .noSource => 0x1C
  | .duplicate => 0x1D

/-- The kind, tag and payload of a frame (R189). -/
structure Frame where
  kind    : Byte
  tag     : Byte
  payload : List Byte
deriving DecidableEq, Repr

/-- The receive assembler (R190): HUNT, or IN_FRAME with the bytes received after the start byte. -/
inductive Assembler where
  | hunt
  | inFrame (bytes : List Byte)
deriving DecidableEq, Repr

/-- What a received byte brings about in an assembler (R190). -/
inductive RxEvent where
  | nothing
  | lengthError
  | crcError
  | frame (f : Frame)
deriving DecidableEq, Repr

/-- A request with its payload fields (section 11.8). `unknown` is a kind that names no request, `badLength` a payload
length that does not fit its kind (R192). -/
inductive Request where
  | setDatum (c : Int)
  | stageSegments (segs : List Segment)
  | stageClear
  | splice (a b : Int)
  | spliceResume
  | spliceAbort
  | planClear
  | getPlan (first count : Nat)
  | addMarker (m : Int) (lead trail : Nat)
  | removeMarker (id : Nat)
  | getMarkers (first count : Nat)
  | lift
  | returnDrum
  | selectTarget (source : Nat)
  | setPoint (side mode : Nat) (depth slope : Int)
  | setTrim (side : Nat) (trim : Int)
  | engage (side : Nat)
  | disengage (side : Nat)
  | jog (side : Nat) (valve : Int) (duration : Nat)
  | scanEnable (arg : Nat)
  | setCellMask (cells : BitVec 16)
  | getProfile
  | takeReference
  | clearFlags (flags : BitVec 16)
  | armFault (arm : Nat)
  | getFault
  | countersReset
  | getLoading (first count : Nat)
  | truckAdd (id target : Nat)
  | truckInPosition (id : Nat)
  | truckAway (id : Nat)
  | truckRemove (id : Nat)
  | conveyorStart
  | conveyorStop
  | setParam (item : Nat) (value : Int)
  | getParam (item : Nat)
  | lockEnvelope
  | setCalOpen (arg : Nat)
  | zeroSensor (sensor : Nat) (known : Int)
  | identify
  | getStatus (part : Nat)
  | setReporting (kinds : BitVec 16)
  | restart
  | unknown (kind : Byte)
  | badLength (kind : Byte)
deriving DecidableEq, Repr

/-- A request held in the request buffer with its tag (R191). -/
structure Queued where
  tag : Byte
  req : Request
deriving DecidableEq, Repr

/-- What an owner answers to a request: the result code and the values that follow it (R192). -/
structure Answer where
  code   : ResultCode
  values : List Byte
deriving DecidableEq, Repr

end Sys2Proof.Machine
end

