-- ==== Sys2Proof/Decode.lean ====
section
/-! DEFINITION. Bytes, frames and requests: the byte order (R202), the CRC and the frame (R189), the receive assembler (R190),
reading a request from its payload (R192, section 11.8) and writing one, and the host's `decodeTableWord`. -/

namespace Sys2Proof

/-! ### Integers on the wire (R202) -/

/-- An integer in `n` bytes, most significant byte first, two's complement. -/
def bytesBE : Nat → Int → List Byte
  | 0, _ => []
  | n + 1, v => BitVec.ofInt 8 (v / (256 ^ n : Nat)) :: bytesBE n v

/-- The unsigned value of bytes, most significant byte first. -/
def natBE (bs : List Byte) : Nat := bs.foldl (fun acc b => acc * 256 + b.toNat) 0

/-- The two's complement value of bytes, most significant byte first. -/
def signedBE (bs : List Byte) : Int :=
  let n := natBE bs
  if n * 2 < 256 ^ bs.length then (n : Int) else (n : Int) - (256 ^ bs.length : Nat)

/-- `n` bytes of a payload from place `i` on. -/
def fieldAt (i n : Nat) (bs : List Byte) : List Byte := (bs.drop i).take n

/-! ### The frame (R189) -/

/-- One bit step of the CRC: polynomial 0x1021, not reflected. -/
def crcShift (c : BitVec 16) : BitVec 16 := if c.msb then (c <<< 1) ^^^ 0x1021#16 else c <<< 1

/-- `n` bit steps of the CRC. -/
def crcShifts : Nat → BitVec 16 → BitVec 16
  | 0, c => c
  | n + 1, c => crcShifts n (crcShift c)

/-- One byte into the CRC, most significant bit first. -/
def crcByte (c : BitVec 16) (b : Byte) : BitVec 16 := crcShifts 8 (c ^^^ (b.setWidth 16 <<< 8))

/-- The CRC over bytes, from 0xFFFF. -/
def crcOf (bs : List Byte) : BitVec 16 := bs.foldl crcByte 0xFFFF#16

/-- The bytes of a CRC, high byte first. -/
def crcBytes (c : BitVec 16) : List Byte := [(c >>> 8).setWidth 8, c.setWidth 8]

/-- The start byte. -/
def startByte : Byte := 0x5A

namespace Machine

/-- The length, kind, tag and payload bytes of a frame: what its CRC is formed over (R189). -/
def Frame.body (f : Frame) : List Byte := BitVec.ofNat 8 f.payload.length :: f.kind :: f.tag :: f.payload

/-- The bytes of a frame after its start byte. -/
def Frame.afterStart (f : Frame) : List Byte := f.body ++ crcBytes (crcOf f.body)

/-- The bytes of a frame on the wire (R189). -/
def Frame.wire (f : Frame) : List Byte := startByte :: f.afterStart

/-- A complete frame is judged by its CRC (R190): `bs` is the length through the payload, `c` the two CRC bytes. -/
def judgeFrame (bs c : List Byte) : RxEvent :=
  if crcBytes (crcOf bs) = c then .frame ⟨bs.getD 1 0, bs.getD 2 0, bs.drop 3⟩ else .crcError

/-- One received byte in an assembler (R190): the assembler after it, and what the byte brought about. -/
def Assembler.push (a : Assembler) (b : Byte) : Assembler × RxEvent :=
  match a with
  | .hunt => if b = startByte then (.inFrame [], .nothing) else (.hunt, .nothing)
  | .inFrame [] => if 248 < b.toNat then (.hunt, .lengthError) else (.inFrame [b], .nothing)
  | .inFrame (n :: rest) =>
    let bs := n :: rest ++ [b]
    if bs.length < n.toNat + 5 then (.inFrame bs, .nothing)
    else (.hunt, judgeFrame (bs.take (n.toNat + 3)) (bs.drop (n.toNat + 3)))

/-! ### Requests (section 11.8) -/

/-- The segment record at place `17 × i` of a payload. Attribute bits 3 to 7 are not read (R202). -/
def segmentAt (bs : List Byte) (i : Nat) : Segment :=
  let r := fieldAt (17 * i) 17 bs
  let attrs := r.getD 16 0
  { start := signedBE (fieldAt 0 4 r)
    length := natBE (fieldAt 4 4 r)
    l0 := signedBE (fieldAt 8 2 r)
    l1 := signedBE (fieldAt 10 2 r)
    r0 := signedBE (fieldAt 12 2 r)
    r1 := signedBE (fieldAt 14 2 r)
    cut := attrs.getLsbD 0
    load := attrs.getLsbD 1
    detect := attrs.getLsbD 2 }

/-- The attribute byte of a segment. -/
def Segment.attrByte (g : Segment) : Byte :=
  BitVec.ofNat 8 ((if g.cut then 1 else 0) + (if g.load then 2 else 0) + (if g.detect then 4 else 0))

/-- The segment record (section 11.8). -/
def Segment.bytes (g : Segment) : List Byte :=
  bytesBE 4 g.start ++ bytesBE 4 g.length ++ bytesBE 2 g.l0 ++ bytesBE 2 g.l1 ++ bytesBE 2 g.r0 ++ bytesBE 2 g.r1 ++
  [Segment.attrByte g]

/-- A request read when the payload has one fixed length (R192). -/
def withLength (n : Nat) (kind : Byte) (p : List Byte) (r : Request) : Request :=
  if p.length = n then r else .badLength kind

/-- The request a kind and a payload spell (R192, table of request kinds). -/
def Request.parse (kind : Byte) (p : List Byte) : Request :=
  let u8 (i : Nat) : Nat := natBE (fieldAt i 1 p)
  let u16 (i : Nat) : Nat := natBE (fieldAt i 2 p)
  let s16 (i : Nat) : Int := signedBE (fieldAt i 2 p)
  let s32 (i : Nat) : Int := signedBE (fieldAt i 4 p)
  match kind.toNat with
  | 0x01 => withLength 4 kind p (.setDatum (s32 0))
  | 0x10 =>
    if p.length % 17 = 0 ∧ p.length ≤ 136 then .stageSegments ((List.range (p.length / 17)).map (segmentAt p))
    else .badLength kind
  | 0x11 => withLength 0 kind p .stageClear
  | 0x12 => withLength 8 kind p (.splice (s32 0) (s32 4))
  | 0x13 => withLength 0 kind p .spliceResume
  | 0x14 => withLength 0 kind p .spliceAbort
  | 0x15 => withLength 0 kind p .planClear
  | 0x16 => withLength 2 kind p (.getPlan (u8 0) (u8 1))
  | 0x18 => withLength 8 kind p (.addMarker (s32 0) (u16 4) (u16 6))
  | 0x19 => withLength 1 kind p (.removeMarker (u8 0))
  | 0x1A => withLength 2 kind p (.getMarkers (u8 0) (u8 1))
  | 0x1B => withLength 0 kind p .lift
  | 0x1C => withLength 0 kind p .returnDrum
  | 0x20 => withLength 1 kind p (.selectTarget (u8 0))
  | 0x21 => withLength 6 kind p (.setPoint (u8 0) (u8 1) (s16 2) (s16 4))
  | 0x22 => withLength 3 kind p (.setTrim (u8 0) (s16 1))
  | 0x23 => withLength 1 kind p (.engage (u8 0))
  | 0x24 => withLength 1 kind p (.disengage (u8 0))
  | 0x25 => withLength 5 kind p (.jog (u8 0) (s16 1) (u16 3))
  | 0x28 => withLength 1 kind p (.scanEnable (u8 0))
  | 0x29 => withLength 2 kind p (.setCellMask (BitVec.ofNat 16 (u16 0)))
  | 0x2A => withLength 0 kind p .getProfile
  | 0x2B => withLength 0 kind p .takeReference
  | 0x30 => withLength 2 kind p (.clearFlags (BitVec.ofNat 16 (u16 0)))
  | 0x31 => withLength 1 kind p (.armFault (u8 0))
  | 0x32 => withLength 0 kind p .getFault
  | 0x38 => withLength 0 kind p .countersReset
  | 0x39 => withLength 2 kind p (.getLoading (u8 0) (u8 1))
  | 0x40 => withLength 4 kind p (.truckAdd (u16 0) (u16 2))
  | 0x41 => withLength 2 kind p (.truckInPosition (u16 0))
  | 0x42 => withLength 2 kind p (.truckAway (u16 0))
  | 0x43 => withLength 2 kind p (.truckRemove (u16 0))
  | 0x44 => withLength 0 kind p .conveyorStart
  | 0x45 => withLength 0 kind p .conveyorStop
  | 0x48 => withLength 5 kind p (.setParam (u8 0) (s32 1))
  | 0x49 => withLength 1 kind p (.getParam (u8 0))
  | 0x4A => withLength 0 kind p .lockEnvelope
  | 0x4B => withLength 1 kind p (.setCalOpen (u8 0))
  | 0x4C => withLength 5 kind p (.zeroSensor (u8 0) (s32 1))
  | 0x70 => withLength 0 kind p .identify
  | 0x71 => withLength 1 kind p (.getStatus (u8 0))
  | 0x72 => withLength 2 kind p (.setReporting (BitVec.ofNat 16 (u16 0)))
  | 0x73 => withLength 0 kind p .restart
  | _ => .unknown kind

/-- The kind byte of a request (table of request kinds). -/
def Request.kind : Request → Byte
  | .setDatum _ => 0x01
  | .stageSegments _ => 0x10
  | .stageClear => 0x11
  | .splice _ _ => 0x12
  | .spliceResume => 0x13
  | .spliceAbort => 0x14
  | .planClear => 0x15
  | .getPlan _ _ => 0x16
  | .addMarker _ _ _ => 0x18
  | .removeMarker _ => 0x19
  | .getMarkers _ _ => 0x1A
  | .lift => 0x1B
  | .returnDrum => 0x1C
  | .selectTarget _ => 0x20
  | .setPoint _ _ _ _ => 0x21
  | .setTrim _ _ => 0x22
  | .engage _ => 0x23
  | .disengage _ => 0x24
  | .jog _ _ _ => 0x25
  | .scanEnable _ => 0x28
  | .setCellMask _ => 0x29
  | .getProfile => 0x2A
  | .takeReference => 0x2B
  | .clearFlags _ => 0x30
  | .armFault _ => 0x31
  | .getFault => 0x32
  | .countersReset => 0x38
  | .getLoading _ _ => 0x39
  | .truckAdd _ _ => 0x40
  | .truckInPosition _ => 0x41
  | .truckAway _ => 0x42
  | .truckRemove _ => 0x43
  | .conveyorStart => 0x44
  | .conveyorStop => 0x45
  | .setParam _ _ => 0x48
  | .getParam _ => 0x49
  | .lockEnvelope => 0x4A
  | .setCalOpen _ => 0x4B
  | .zeroSensor _ _ => 0x4C
  | .identify => 0x70
  | .getStatus _ => 0x71
  | .setReporting _ => 0x72
  | .restart => 0x73
  | .unknown k => k
  | .badLength k => k

/-- The payload of a request (table of request kinds); a bad length has no one payload. -/
def Request.payload : Request → List Byte
  | .setDatum c => bytesBE 4 c
  | .stageSegments gs => gs.flatMap Segment.bytes
  | .stageClear => []
  | .splice a b => bytesBE 4 a ++ bytesBE 4 b
  | .spliceResume => []
  | .spliceAbort => []
  | .planClear => []
  | .getPlan f n => bytesBE 1 f ++ bytesBE 1 n
  | .addMarker m l t => bytesBE 4 m ++ bytesBE 2 l ++ bytesBE 2 t
  | .removeMarker i => bytesBE 1 i
  | .getMarkers f n => bytesBE 1 f ++ bytesBE 1 n
  | .lift => []
  | .returnDrum => []
  | .selectTarget x => bytesBE 1 x
  | .setPoint s m d c => bytesBE 1 s ++ bytesBE 1 m ++ bytesBE 2 d ++ bytesBE 2 c
  | .setTrim s x => bytesBE 1 s ++ bytesBE 2 x
  | .engage s => bytesBE 1 s
  | .disengage s => bytesBE 1 s
  | .jog s v d => bytesBE 1 s ++ bytesBE 2 v ++ bytesBE 2 d
  | .scanEnable x => bytesBE 1 x
  | .setCellMask m => bytesBE 2 m.toNat
  | .getProfile => []
  | .takeReference => []
  | .clearFlags m => bytesBE 2 m.toNat
  | .armFault x => bytesBE 1 x
  | .getFault => []
  | .countersReset => []
  | .getLoading f n => bytesBE 1 f ++ bytesBE 1 n
  | .truckAdd i t => bytesBE 2 i ++ bytesBE 2 t
  | .truckInPosition i => bytesBE 2 i
  | .truckAway i => bytesBE 2 i
  | .truckRemove i => bytesBE 2 i
  | .conveyorStart => []
  | .conveyorStop => []
  | .setParam i v => bytesBE 1 i ++ bytesBE 4 v
  | .getParam i => bytesBE 1 i
  | .lockEnvelope => []
  | .setCalOpen x => bytesBE 1 x
  | .zeroSensor x v => bytesBE 1 x ++ bytesBE 4 v
  | .identify => []
  | .getStatus p => bytesBE 1 p
  | .setReporting m => bytesBE 2 m.toNat
  | .restart => []
  | .unknown _ => []
  | .badLength _ => []

/-- A request whose fields fit their widths and that its kind and payload spell (section 11.8). -/
def Request.fits : Request → Bool
  | .setDatum c => fitsSigned32 c
  | .stageSegments gs => decide (gs.length ≤ 8) && gs.all Segment.fits
  | .splice a b => fitsSigned32 a && fitsSigned32 b
  | .getPlan f n => fitsByte f && fitsByte n
  | .addMarker m l t => fitsSigned32 m && fitsWord l && fitsWord t
  | .removeMarker i => fitsByte i
  | .getMarkers f n => fitsByte f && fitsByte n
  | .selectTarget x => fitsByte x
  | .setPoint s m d c => fitsByte s && fitsByte m && fitsSigned16 d && fitsSigned16 c
  | .setTrim s x => fitsByte s && fitsSigned16 x
  | .engage s => fitsByte s
  | .disengage s => fitsByte s
  | .jog s v d => fitsByte s && fitsSigned16 v && fitsWord d
  | .scanEnable x => fitsByte x
  | .armFault x => fitsByte x
  | .getLoading f n => fitsByte f && fitsByte n
  | .truckAdd i t => fitsWord i && fitsWord t
  | .truckInPosition i => fitsWord i
  | .truckAway i => fitsWord i
  | .truckRemove i => fitsWord i
  | .setParam i v => fitsByte i && fitsSigned32 v
  | .getParam i => fitsByte i
  | .setCalOpen x => fitsByte x
  | .zeroSensor x v => fitsByte x && fitsSigned32 v
  | .getStatus p => fitsByte p
  | .unknown k => namesNoRequest k
  | .badLength _ => false
  | .stageClear | .spliceResume | .spliceAbort | .planClear | .lift | .returnDrum | .setCellMask _ | .getProfile
  | .takeReference | .clearFlags _ | .getFault | .countersReset | .conveyorStart | .conveyorStop | .lockEnvelope
  | .identify | .setReporting _ | .restart => true

end Machine

/-- The command a word of the opcode table spells: the table gives no row any bits, so no word spells one. -/
def decodeTableWord (_nbits _w : Nat) : Option Instr := none

end Sys2Proof
end

