-- ==== Sys2Proof/Machine/State.lean ====
section
/-! DEFINITION. The state of the ZMC-620, block by block, its power-on values, and the reasons a step can stop.

Pieces the manual names whose value is a function of other pieces are computed (Machine/Operands.lean), not stored twice:
chainage, belt travel, B, lifted, ANY, ON_GRADE, Hc, the SLOW and STOP lines (log entry 30). -/

namespace Sys2Proof.Machine

/-- The Travel Counter (section 1.1). -/
structure Trc where
  rejectedTravel : Nat
  rejectedBelt   : Nat
  /-- The filter period in force at the rising edge of a travel high phase in progress (R1, R2). -/
  highTravel     : Option Int
  /-- The same for the belt input. -/
  highBelt       : Option Int
  /-- The travel pulse count P. -/
  pulses         : Int
  datum          : Int
  /-- The high-water mark. -/
  hw             : Int
  nextVolume     : Int
  nextScan       : Int
  travelInterval : Int
  beltInterval   : Nat
  advance        : Int
  beltSpeed      : Int
  /-- The belt pulse count Pb. -/
  pb             : Nat
  nextBelt       : Nat
  /-- Milliseconds run of the present speed interval (R6). -/
  speedPhase     : Nat
  /-- Volume steps issued (R10) and not yet handled (log entry 5). -/
  volumeDue      : Nat
  /-- Chainages of scan triggers issued (R11) and not yet handled, oldest first (log entry 5). -/
  scanDue        : List Int
  /-- Belt steps issued (R8) and not yet handled (log entry 5). -/
  beltDue        : Nat
deriving DecidableEq, Repr

/-- The Plan Table (sections 2.1 to 2.7). -/
structure Plt where
  plan        : List Segment
  staging     : List Segment
  splice      : SpliceState
  lastEvent   : SpliceEvent
  a           : Int
  b           : Int
  p           : Int
  stepIndex   : Nat
  /-- The disposition at the drum (R22). -/
  disposition : Disposition
  /-- The covered part of the lookup at the drum (R22). -/
  covered     : Bool
deriving DecidableEq, Repr

/-- One depth channel (section 3.1). -/
structure Channel where
  state       : ChannelState
  /-- SOURCE is among the hold causes. -/
  holdSource  : Bool
  /-- LINK is among the hold causes. -/
  holdLink    : Bool
  mode        : SideMode
  depthSet    : Int
  slopeSet    : Int
  trim        : Int
  heldGoal    : Int
  /-- Scaled values of the last sample, absent when invalid (R57). -/
  plate       : Option Int
  leg         : Option Int
  slope       : Option Int
  /-- Raw counts of the last sample (R57, R185). -/
  rawPlate    : Nat
  rawLeg      : Nat
  sourceValid : Bool
  dMeas       : Int
  dCmd        : Int
  goal        : Option Int
  returning   : Bool
  lastLifted  : Bool
  valve       : Int
  jogValue    : Int
  /-- Jog time left, in ms. -/
  jogLeft     : Nat
  /-- The on-grade counter. -/
  grade       : Nat
deriving DecidableEq, Repr

/-- The Marker List and Lift Control (section 4.1). -/
structure Mlc where
  markers     : List Marker
  nextId      : Nat
  lost        : Nat
  eventCount  : Nat
  lastEvent   : MarkerEvent
  causes      : LiftCauses
  returnDepth : Option Int
deriving DecidableEq, Repr

/-- The seven counters of the Scan Port (R114). -/
structure ScanCounters where
  sent      : Nat
  completed : Nat
  missed    : Nat
  timedOut  : Nat
  stray     : Nat
  bad       : Nat
  overruns  : Nat
deriving DecidableEq, Repr

/-- The Scan Port and Profile Reducer (section 5.1). -/
structure Spr where
  enable     : Bool
  trigNumber : Nat
  awaited    : Option Awaited
  /-- The idle interval, in ms since the last TRIGGER sent (R100). -/
  idle       : Nat
  buffer     : List Line
  latest     : Option CellRecord
  skiL       : Option Ski
  skiR       : Option Ski
  fouled     : Bool
  lowReturn  : Bool
  fouledRun  : Nat
  lowRun     : Nat
  counters   : ScanCounters
  rx         : Assembler
  /-- The last TRIGGER frame sent to the head (R96). -/
  sentFrame  : Option Frame
deriving DecidableEq, Repr

/-- The Change Detector (section 6.1). -/
structure Chd where
  history    : List HistEntry
  lastAt     : Option Int
  mode       : RefMode
  held       : Option Reference
  stepCount  : Nat
  det        : DetState
  n          : Nat
  runStart   : Option Int
  quiet      : Nat
  /-- The recorded suspension causes (R123). -/
  condition  : Bool
  geometry   : Bool
  /-- The mask set: bit k set when cell k is masked (R106). -/
  mask       : BitVec 16
  trips      : Nat
  lastTrip   : Option Int
deriving DecidableEq, Repr

/-- Computation Status (section 7.1). Bit n of the flag set is the flag of code n. -/
structure Cst where
  flags    : BitVec 13
  armed    : Bool
  locus    : Option Locus
  captures : Nat
deriving DecidableEq, Repr

/-- The Volume Meter and the Belt Tracker (section 8.1). -/
structure Load where
  vc         : Nat
  vd         : Nat
  vw         : Nat
  vs         : Nat
  vx         : Nat
  lastParcel : Nat
  /-- The parcels on the belt, oldest first. -/
  parcels    : List Parcel
deriving DecidableEq, Repr

/-- The Truck Queue and Conveyor Sequencer (section 9.1). -/
structure Tqs where
  trucks    : List Truck
  conveyor  : Conveyor
  cmd       : Int
  stall     : Nat
  lastFull  : Option FullTruck
  fullCount : Nat
  permit    : Permit
  reasons   : PermitReasons
deriving DecidableEq, Repr

/-- Machine Parameters (chapter 10). -/
structure Mpr where
  params  : Params
  lock    : Bool
  calOpen : Bool
deriving DecidableEq, Repr

/-- The seven frame counters of the Control Link Port (section 11.1). -/
structure FrameCounters where
  valid   : Nat
  crc     : Nat
  format  : Nat
  gap     : Nat
  dropped : Nat
  replies : Nat
  reports : Nat
deriving DecidableEq, Repr

/-- The Control Link Port (section 11.1). Bit n of a report set is the report kind of mask bit n. -/
structure Clp where
  rx        : Assembler
  buffer    : List Queued
  slot      : Option Frame
  /-- The frame being sent; IDLE when absent. -/
  tx        : Option Frame
  waiting   : BitVec 9
  enabled   : BitVec 9
  silent    : Bool
  silence   : Nat
  telemetry : Nat
  counters  : FrameCounters
deriving DecidableEq, Repr

/-- The state of the part. -/
structure State where
  /-- Milliseconds since power-on, not wrapped (R138). -/
  now      : Nat
  /-- The level of the E-stop line. -/
  eStop    : Bool
  trc      : Trc
  plt      : Plt
  chL      : Channel
  chR      : Channel
  /-- The target source (R53). -/
  target   : Target
  /-- Raw count of the later of the two channels' last slope samples (R185). -/
  slopeRaw : Nat
  mlc      : Mlc
  spr      : Spr
  chd      : Chd
  cst      : Cst
  load     : Load
  tqs      : Tqs
  mpr      : Mpr
  clp      : Clp
  /-- The model's own: how many free values have been used (log entry 12). -/
  freeUsed : Nat
  /-- The commands that wait, first in, first out. -/
  pending  : List Instr
deriving DecidableEq, Repr

/-- Faults. No event of the part stops it: trouble is a result code, a counter or a sticky flag, so there is no
constructor (safe: nothing is left out by it). -/
inductive Fault where
deriving DecidableEq, Repr

/-- Refusals. -/
inductive Refusal where
  /-- Raised by an arm of `exec` for a command without a meaning; no arm does. Safe: it stops the run. -/
  | notModelled (mnemonic : String)
deriving DecidableEq, Repr

/-! ### Power-on values -/

/-- TRC at power-on (R16). That no high phase is in progress is log entry 43. -/
def Trc.initial : Trc where
  rejectedTravel := 0
  rejectedBelt := 0
  highTravel := none
  highBelt := none
  pulses := 0
  datum := 0
  hw := 0
  nextVolume := 100
  nextScan := 100
  travelInterval := 0
  beltInterval := 0
  advance := 0
  beltSpeed := 0
  pb := 0
  nextBelt := 10
  speedPhase := 0
  volumeDue := 0
  scanDue := []
  beltDue := 0

/-- PLT at power-on (R43). -/
def Plt.initial : Plt where
  plan := []
  staging := []
  splice := .idle
  lastEvent := .none
  a := 0
  b := 0
  p := 0
  stepIndex := 0
  disposition := .mill
  covered := false

/-- A channel at power-on (R75); the raw samples are log entry 22. -/
def Channel.initial : Channel where
  state := .off
  holdSource := false
  holdLink := false
  mode := .depth
  depthSet := 0
  slopeSet := 0
  trim := 0
  heldGoal := 0
  plate := none
  leg := none
  slope := none
  rawPlate := 0
  rawLeg := 0
  sourceValid := false
  dMeas := 0
  dCmd := 0
  goal := none
  returning := false
  lastLifted := false
  valve := 0
  jogValue := 0
  jogLeft := 0
  grade := 0

/-- The last marker event NONE (R94); its other fields are log entry 22. -/
def MarkerEvent.initial : MarkerEvent := ⟨.none, 0, 0, 0, 0, .machine⟩

/-- MLC at power-on (R94). -/
def Mlc.initial : Mlc where
  markers := []
  nextId := 1
  lost := 0
  eventCount := 0
  lastEvent := .initial
  causes := .empty
  returnDepth := none

/-- SPR's counters at both resets (R115). -/
def ScanCounters.zero : ScanCounters := ⟨0, 0, 0, 0, 0, 0, 0⟩

/-- SPR at power-on (R115). The port's assembler in HUNT and no TRIGGER frame sent are log entry 43. -/
def Spr.initial : Spr where
  enable := false
  trigNumber := 0
  awaited := none
  idle := 0
  buffer := []
  latest := none
  skiL := none
  skiR := none
  fouled := false
  lowReturn := false
  fouledRun := 0
  lowRun := 0
  counters := .zero
  rx := .hunt
  sentFrame := none

/-- CHD at power-on (R131). -/
def Chd.initial : Chd where
  history := []
  lastAt := none
  mode := .rolling
  held := none
  stepCount := 0
  det := .quiet
  n := 0
  runStart := none
  quiet := 0
  condition := false
  geometry := false
  mask := 0
  trips := 0
  lastTrip := none

/-- CST at power-on (R141). -/
def Cst.initial : Cst := ⟨0, false, none, 0⟩

/-- VLM and BLT at power-on (R159). -/
def Load.initial : Load := ⟨0, 0, 0, 0, 0, 0, []⟩

/-- TQS at power-on, before the permit is formed (R178). -/
def Tqs.initial : Tqs where
  trucks := []
  conveyor := .stopped
  cmd := 0
  stall := 0
  lastFull := none
  fullCount := 0
  permit := .stop
  reasons := ⟨false, false, false, false⟩

/-- The geometry items at power-on (R181). -/
def Geometry.unset : Geometry := ⟨none, none, none, none, none, none, none⟩

/-- The reset column of the parameter table, envelope. -/
def Envelope.initial : Envelope where
  dmax := 3000
  hLift := 500
  ru := 20
  rd := 5
  vmax := 1000
  smax := 800
  trimLimit := 200
  vbMax := 5000
  truckMax := 40000

/-- The reset column of the parameter table, ids 32 to 60. -/
def Tuning.initial : Tuning where
  travelFilter := 8
  beltFilter := 8
  scanPitch := 100
  defaultDisp := .hold
  bAhead := 20000
  bBehind := 2000
  autoLead := 3000
  autoTrail := 1500
  pointMin := 20
  skiCellsL := ⟨0, 2⟩
  skiCellsR := ⟨13, 15⟩
  fPercent := 80
  tf := 30
  nearLimit := 3000
  nf := 4
  lineMin := 40
  nl := 4
  refMode := .rolling
  k := 4
  t := 60
  ns := 3
  nc := 2
  nt := 2
  swell := 125
  vbMin := 800
  lt := 1000
  lp := 1500
  silenceTimeout := 1000
  telemetryPeriod := 0

/-- The reset column of the parameter table, per-channel items. -/
def ChannelTuning.initial : ChannelTuning := ⟨32, 3, 0, 20, 8, 0⟩

/-- The reset column of the parameter table, calibration. -/
def Calibration.initial : Calibration where
  plateL := ⟨0, 4000⟩
  plateR := ⟨0, 4000⟩
  legL := ⟨0, 20000⟩
  legR := ⟨0, 20000⟩
  slope := ⟨-1000, 2000⟩
  offsetL := 0
  offsetR := 0

/-- MPR at power-on (R188). -/
def Mpr.initial : Mpr where
  params := ⟨.unset, .initial, .initial, .initial, .initial, .initial⟩
  lock := false
  calOpen := false

/-- CLP's frame counters at power-on. -/
def FrameCounters.zero : FrameCounters := ⟨0, 0, 0, 0, 0, 0, 0⟩

/-- The report enable set at power-on: STATE, FAULT, TRUCK_FULL, PERMIT, MARKER, SPLICE (R201). -/
def resetEnabled : BitVec 9 := 0b010111101

/-- CLP at power-on, before STATE and PERMIT are queued (R201). -/
def Clp.initial : Clp where
  rx := .hunt
  buffer := []
  slot := none
  tx := none
  waiting := 0
  enabled := resetEnabled
  silent := false
  silence := 0
  telemetry := 0
  counters := .zero

/-- Every block at its power-on values, with the E-stop line at the given level, before the power-on event forms the permit
and queues its reports. -/
def State.base (eStop : Bool) (freeUsed : Nat) (pending : List Instr) : State where
  now := 0
  eStop := eStop
  trc := .initial
  plt := .initial
  chL := .initial
  chR := .initial
  target := .set
  slopeRaw := 0
  mlc := .initial
  spr := .initial
  chd := .initial
  cst := .initial
  load := .initial
  tqs := .initial
  mpr := .initial
  clp := .initial
  freeUsed := freeUsed
  pending := pending

/-- The machine right after the power-on event: the permit has become SLOW for the conveyor (R178), and the STATE and
PERMIT reports are waiting (R201). The E-stop line is released and no command waits (log entry 23). -/
def State.reset : State :=
  let s := State.base false 0 []
  { s with
    tqs := { s.tqs with permit := .slow, reasons := ⟨false, false, false, true⟩ }
    clp := { s.clp with waiting := 0b000010001 } }

end Sys2Proof.Machine
end

