-- ==== Sys2Proof/Machine/Operands.lean ====
section
/-! DEFINITION. The arithmetic of section 5.2 and every value the blocks read: derived positions, lookups, scaled sensors,
ski validity, belt sums. Nothing here changes the state. -/

namespace Sys2Proof.Machine

/-! ### Numbers (section 5.2) -/

/-- Clamp(x, lo, hi): `lo` if `x` is below `lo`, `hi` if `x` is above `hi`, `x` otherwise. -/
def clamp (x lo hi : Int) : Int := if x < lo then lo else if hi < x then hi else x

/-- Division truncating toward zero. -/
def truncDiv (a b : Int) : Int := Int.tdiv a b

/-- The sign of a number that is not 0. -/
def signOf (x : Int) : Int := if x < 0 then -1 else 1

/-- A count that increases by 1 and stays at its limit. -/
def satInc (limit n : Nat) : Nat := if n < limit then n + 1 else limit

/-- A 2-byte count that increases by 1, with 65,535 followed by 0. -/
def wrapInc (n : Nat) : Nat := if n < Config.count16Max then n + 1 else 0

/-- A chainage or a derived chainage clamped to its limits (R4, R5). -/
def clampChainage (x : Int) : Int := clamp x (-Config.chainageLimit) Config.chainageLimit

/-- A value within both bounds. -/
def within (lo hi x : Int) : Bool := decide (lo ≤ x) && decide (x ≤ hi)

/-- A chainage argument within the limits. -/
def chainageOk (x : Int) : Bool := within (-Config.chainageLimit) Config.chainageLimit x

/-! ### Short names for the items -/

abbrev State.geo (s : State) : Geometry := s.mpr.params.geo
abbrev State.env (s : State) : Envelope := s.mpr.params.env
abbrev State.tun (s : State) : Tuning := s.mpr.params.tun
abbrev State.cal (s : State) : Calibration := s.mpr.params.cal

/-- The channel of a side. -/
def State.ch (s : State) : Side → Channel
  | .L => s.chL
  | .R => s.chR

/-- The tuning items of a channel. -/
def State.chTun (s : State) : Side → ChannelTuning
  | .L => s.mpr.params.tunL
  | .R => s.mpr.params.tunR

/-- The side-plate calibration of a side. -/
def State.plateCal (s : State) : Side → SensorCal
  | .L => s.cal.plateL
  | .R => s.cal.plateR

/-- The leg calibration of a side. -/
def State.legCal (s : State) : Side → SensorCal
  | .L => s.cal.legL
  | .R => s.cal.legR

/-- The drum calibration offset of a side (R58). -/
def State.drumOffset (s : State) : Side → Int
  | .L => s.cal.offsetL
  | .R => s.cal.offsetR

/-- The ski cell range of a side (R107). -/
def State.skiCells (s : State) : Side → CellRange
  | .L => s.tun.skiCellsL
  | .R => s.tun.skiCellsR

/-- The published ski surface of a side. -/
def State.ski (s : State) : Side → Option Ski
  | .L => s.spr.skiL
  | .R => s.spr.skiR

/-- The SAT flag of a side (R70). -/
def satFlagOf : Side → Flag
  | .L => .lSat
  | .R => .rSat

/-- The SRCLOSS flag of a side (R49). -/
def srcLossFlagOf : Side → Flag
  | .L => .lSrcLoss
  | .R => .rSrcLoss

/-- The CLAMP flag of a side (R64). -/
def clampFlagOf : Side → Flag
  | .L => .lClamp
  | .R => .rClamp

/-! ### Codes received (R202) -/

/-- A code for one side. -/
def sideOf : Nat → Option Side
  | 0 => some .L
  | 1 => some .R
  | _ => none

/-- A side code that may name both, as the list of sides it names. -/
def sidesOf : Nat → Option (List Side)
  | 0 => some [.L]
  | 1 => some [.R]
  | 2 => some [.L, .R]
  | _ => none

/-- A yes/no or on/off code. -/
def yesNoOf : Nat → Option Bool
  | 0 => some false
  | 1 => some true
  | _ => none

/-- A side mode code. -/
def modeOf : Nat → Option SideMode
  | 0 => some .depth
  | 1 => some .slope
  | _ => none

/-- A target source code. -/
def targetOf : Nat → Option Target
  | 0 => some .plan
  | 1 => some .set
  | _ => none

/-- A sensor code. -/
def sensorOf : Nat → Option Sensor
  | 0 => some .plateL
  | 1 => some .plateR
  | 2 => some .legL
  | 3 => some .legR
  | 4 => some .slope
  | _ => none

/-! ### Travel (chapter 1) -/

/-- datum + trunc(P × 1000 / ppm), before the clamp of R4; the datum while ppm is unset. -/
def Trc.rawChainage (t : Trc) (ppm : Option Int) : Int :=
  match ppm with
  | some q => t.datum + truncDiv (t.pulses * 1000) q
  | none => t.datum

/-- Chainage (R4). -/
def State.chainage (s : State) : Int := clampChainage (s.trc.rawChainage s.geo.ppm)

/-- Drum chainage, chainage + Dd, clamped; chainage while Dd is unset (R5). -/
def State.drum (s : State) : Int := clampChainage (s.chainage + s.geo.dd.getD 0)

/-- The scan chainage formed from the chainage a trigger carries (R5). -/
def State.scanChainage (s : State) (c : Int) : Int := clampChainage (c + s.geo.ds.getD 0)

/-- Belt travel, trunc(Pb × 1000 / bppm); 0 while bppm is unset (R7). -/
def State.beltTravel (s : State) : Nat :=
  match s.geo.bppm with
  | some q => (truncDiv (s.trc.pb * 1000) q).toNat
  | none => 0

/-- The smallest datum + k × pitch that exceeds `hw`, for a whole number k (R11). -/
def nextScanBoundary (datum pitch hw : Int) : Int := datum + ((hw - datum) / pitch + 1) * pitch

/-- The running time (R138). -/
def State.runningTime (s : State) : Nat := s.now % 4294967296

/-! ### The plan (chapter 2) -/

/-- The end of a segment (R17). -/
def Segment.finish (g : Segment) : Int := g.start + g.length

/-- The segment covers drum chainage `c` (R17). -/
def Segment.covers (g : Segment) (c : Int) : Bool := decide (g.start ≤ c) && decide (c < Segment.finish g)

/-- Well-formed segments (R17). -/
def Segment.wellFormed (g : Segment) : Bool :=
  within 100 1000000 g.length && chainageOk g.start && chainageOk (Segment.finish g) &&
  within 0 3500 g.l0 && within 0 3500 g.l1 && within 0 3500 g.r0 && within 0 3500 g.r1

/-- The disposition of a segment's attributes (R19). -/
def Segment.disposition (g : Segment) : Disposition :=
  match g.cut, g.load with
  | true, true => .mill
  | true, false => .windrow
  | false, true => .clear
  | false, false => .travel

/-- The disposition has LOAD yes (R143). -/
def Disposition.loads : Disposition → Bool
  | .mill => true
  | .windrow => false
  | .clear => true
  | .travel => false

/-- The disposition lifts the drum with cause PLAN (R19, R85). -/
def Disposition.lifts : Disposition → Bool
  | .mill => false
  | .windrow => false
  | .clear => true
  | .travel => true

/-- d0 + trunc((d1 − d0) × (c − S) / L) (R23). -/
def lineDepth (d0 d1 start length c : Int) : Int := d0 + truncDiv ((d1 - d0) * (c - start)) length

/-- The left depth of a segment's line at `c`, whatever its CUT attribute (R23, R31). -/
def Segment.leftAt (g : Segment) (c : Int) : Int := lineDepth g.l0 g.l1 g.start g.length c

/-- The right depth of a segment's line at `c`. -/
def Segment.rightAt (g : Segment) (c : Int) : Int := lineDepth g.r0 g.r1 g.start g.length c

/-- The disposition of the default (R21). -/
def DefaultDisposition.disposition : DefaultDisposition → Disposition
  | .hold => .mill
  | .travel => .travel

/-- A plan lookup at `c` in a plan, with the default in force (R20, R21). -/
def lookupPlan (plan : List Segment) (default : DefaultDisposition) (c : Int) : Lookup :=
  match plan.find? (fun g => Segment.covers g c) with
  | some g =>
    { covered := true
      disposition := Segment.disposition g
      left := if g.cut then some (Segment.leftAt g c) else none
      right := if g.cut then some (Segment.rightAt g c) else none
      detect := g.detect }
  | none => ⟨false, default.disposition, none, none, true⟩

/-- A plan lookup against the plan as it stands (R20). -/
def State.lookup (s : State) (c : Int) : Lookup := lookupPlan s.plt.plan s.tun.defaultDisp c

/-- The plan depth of a side in a lookup result. -/
def Lookup.depth (r : Lookup) : Side → Option Int
  | .L => r.left
  | .R => r.right

/-- The protected band at its lower and upper end (R25). -/
def State.bandLow (s : State) : Int := s.drum - s.tun.bBehind
def State.bandHigh (s : State) : Int := s.drum + s.tun.bAhead

/-- The protected band and `[x, y)` intersect (R25): the range is not empty, neither is the band, the band's lower end is
below `y` and `x` is below its upper end. -/
def State.bandMeets (s : State) (x y : Int) : Bool :=
  decide (x < y) && decide (s.bandLow < s.bandHigh) && decide (s.bandLow < y) && decide (x < s.bandHigh)

/-- The end of a segment moved to `e`, keeping its line (R31). -/
def Segment.cutEnd (g : Segment) (e : Int) : Segment :=
  { g with length := e - g.start, l1 := Segment.leftAt g e, r1 := Segment.rightAt g e }

/-- The start of a segment moved to `b`, keeping its line (R31). -/
def Segment.cutStart (g : Segment) (b : Int) : Segment :=
  { g with start := b, length := Segment.finish g - b, l0 := Segment.leftAt g b, r0 := Segment.rightAt g b }

/-- What is left of one segment when the coverage of `[x, y)`, with x < y, is removed (R30). -/
def Segment.without (x y : Int) (g : Segment) : List Segment :=
  if Segment.finish g ≤ x ∨ y ≤ g.start then [g]
  else
    (if g.start < x then [Segment.cutEnd g x] else []) ++
    (if y < Segment.finish g then [Segment.cutStart g y] else [])

/-- Removing the coverage of `[x, y)` from a plan (R30). -/
def removeCoverage (x y : Int) (plan : List Segment) : List Segment :=
  if x < y then plan.flatMap (Segment.without x y) else plan

/-- A segment inserted at its place in start order (R34). -/
def insertSegment (g : Segment) : List Segment → List Segment
  | [] => [g]
  | h :: rest => if g.start < h.start then g :: h :: rest else h :: insertSegment g rest

/-- Each further segment starts at or after the end of the one before it, the first at or after `from?` (R28). -/
def followOn (from? : Option Int) : List Segment → Bool
  | [] => true
  | g :: rest =>
    (match from? with
      | some e => decide (e ≤ g.start)
      | none => true) && followOn (some (Segment.finish g)) rest

/-! ### Sensors and sources (chapter 3) -/

/-- A valid raw count (R57). -/
def rawValid (raw : Nat) : Bool := decide (614 ≤ raw) && decide (raw ≤ 3532)

/-- trunc((raw − 683) × span / 2730) (R57). -/
def rawScaled (raw : Nat) (span : Int) : Int := truncDiv (((raw : Int) - 683) * span) 2730

/-- The scaled value of a raw count with its clamp, absent when the count is invalid (R57). -/
def scaleSensor (k : SensorCal) (lo hi : Int) (raw : Nat) : Option Int :=
  if rawValid raw then some (clamp (k.zero + rawScaled raw k.span) lo hi) else none

/-- A side's ski surface is valid at this instant (R108). -/
def State.skiValid (s : State) (side : Side) : Bool :=
  match s.ski side with
  | some k => decide (s.now - k.instant < 500) && !s.spr.fouled && !s.spr.lowReturn
  | none => false

/-- The source SP of a side (R58). -/
def State.sourceSP (s : State) (side : Side) : Option Int := (s.ch side).plate

/-- The source SK of a side (R58). -/
def State.sourceSK (s : State) (side : Side) : Option Int :=
  match (s.ch side).leg, s.ski side with
  | some leg, some k =>
    if s.skiValid side then some (clamp (leg + s.drumOffset side - k.surface) (-3000) 5000) else none
  | _, _ => none

/-- The valid sources of a side with their weights above 0 (R59), by the weights MPR holds at this event (R179, log entry 41). -/
def State.weighted (s : State) (side : Side) : List (Int × Int) :=
  let t := s.chTun side
  let sp := match s.sourceSP side with
    | some d => if 0 < t.wSP then [(t.wSP, d)] else []
    | none => []
  let sk := match s.sourceSK side with
    | some d => if 0 < t.wSK then [(t.wSK, d)] else []
    | none => []
  sp ++ sk

/-- A side has a valid depth source with a weight above 0 (R60). -/
def State.depthValid (s : State) (side : Side) : Bool := !(s.weighted side).isEmpty

/-- trunc(Σ w × d / Σ w) over the weighted sources, or the value held when there is none (R59). -/
def State.fused (s : State) (side : Side) : Int :=
  match s.weighted side with
  | [] => (s.ch side).dMeas
  | ws => truncDiv ((ws.map (fun x => x.1 * x.2)).sum) ((ws.map (·.1)).sum)

/-- A channel has a valid source for a control (R60). -/
def State.controlValid (s : State) (side : Side) : Control → Bool
  | .depth => s.depthValid side
  | .slope => (s.ch side).slope.isSome

/-- The control a channel would use in AUTO, by the lift-cause set (R45). -/
def State.controlIfEngaged (s : State) (side : Side) : Control :=
  if s.mlc.causes.nonEmpty || (s.ch side).mode = .depth then .depth else .slope

/-- At least one channel is in AUTO. -/
def State.anyAuto (s : State) : Bool := s.chL.state = .auto || s.chR.state = .auto

/-- The drum is lifted (R86). -/
def State.lifted (s : State) : Bool := s.mlc.causes.nonEmpty && s.anyAuto

/-- ON_GRADE (R71). -/
def Channel.onGrade (c : Channel) : Bool := c.grade = 10

/-- The valve command of an error, with whether it was clamped to Vmax (R70). -/
def valveOf (t : ChannelTuning) (vmax e : Int) : Int × Bool :=
  if |e| ≤ t.db then (0, false)
  else
    let v := truncDiv (t.kp * (e - signOf e * t.db)) 16
    let v := if v ≠ 0 ∧ |v| < t.vmin then signOf e * t.vmin else v
    if vmax < |v| then (signOf e * vmax, true) else (v, false)

/-- d_cmd after one cycle toward a goal (R65). -/
def ramp (e : Envelope) (cmd goal : Int) : Int :=
  if goal < cmd then max goal (cmd - e.ru)
  else if cmd < goal then min goal (cmd + e.rd)
  else cmd

/-- The slope error of a side, before step 6 (R67); absent while the width or the slope value is (log entry 35). -/
def State.slopeError (s : State) (side : Side) : Option Int :=
  match (s.ch side).slope, s.geo.w with
  | some v, some w =>
    let e := truncDiv (((s.ch side).slopeSet - v) * w) 1000
    some (match side with
      | .L => -e
      | .R => e)
  | _, _ => none

/-! ### Markers (chapter 4) -/

/-- The window of a marker (R76). -/
def Marker.windowStart (k : Marker) : Int := k.m - k.lead
def Marker.windowEnd (k : Marker) : Int := k.m + k.trail

/-- The state of a marker at a drum chainage (R76). -/
def Marker.stateAt (k : Marker) (c : Int) : MarkerState :=
  if c < k.windowStart then .armed else if c < k.windowEnd then .active else .passed

/-- The marker with its state formed at `c`. -/
def Marker.formed (c : Int) (k : Marker) : Marker := { k with state := k.stateAt c }

/-- The chainage lies within the marker's window. -/
def Marker.inWindow (k : Marker) (c : Int) : Bool := decide (k.windowStart ≤ c) && decide (c < k.windowEnd)

/-- A marker inserted at its place in chainage order (R78). -/
def insertMarker (k : Marker) : List Marker → List Marker
  | [] => [k]
  | h :: rest => if k.m < h.m then k :: h :: rest else h :: insertMarker k rest

/-- The id after an id, with 255 followed by 1 (R77). -/
def nextIdAfter (n : Nat) : Nat := if n < 255 then n + 1 else 1

/-- The first id not in use, from `n` on (R77). -/
def freeId (used : List Nat) : Nat → Nat → Nat
  | 0, n => n
  | tries + 1, n => if used.contains n then freeId used tries (nextIdAfter n) else n

/-- The id a new marker takes: a free one is found within 17 tries (R77). -/
def Mlc.newId (m : Mlc) : Nat := freeId (m.markers.map (·.id)) 17 m.nextId

/-! ### Cells (chapter 5) -/

/-- A valid point (R105). -/
def pointValid (least : Int) (q : Point) : Bool :=
  decide (least ≤ q.strength) && decide (500 ≤ q.range) && decide (q.range ≤ 20000)

/-- The four points of cell `k` (R105). -/
def cellPoints (points : List Point) (k : Nat) : List Point := (points.drop (4 * k)).take 4

/-- One cell (R105). -/
def reduceCell (least : Int) (masked : Bool) (points : List Point) : Cell :=
  let good := points.filter (pointValid least)
  { signature := if 2 ≤ good.length then some ((good.map (·.range)).sum / good.length) else none
    valid := good.length
    masked := masked
    standing := false }

/-- The sixteen cells of a line (R105). -/
def reduceLine (least : Int) (mask : BitVec 16) (points : List Point) : List Cell :=
  (List.range 16).map fun k => reduceCell least (mask.getLsbD k) (cellPoints points k)

/-- The signatures of the unmasked cells that are not VOID (R109). -/
def seenSignatures (cells : List Cell) : List Nat :=
  (cells.filter (fun c => !c.masked)).filterMap (·.signature)

/-- The line average, absent when every unmasked cell is VOID (R109). -/
def lineAverage (cells : List Cell) : Option Nat :=
  match seenSignatures cells with
  | [] => none
  | sigs => some (sigs.sum / sigs.length)

/-- The line is judged fouled (R109). -/
def judgedFouled (t : Tuning) (cells : List Cell) : Bool :=
  match lineAverage cells with
  | none => true
  | some avg =>
    let sigs := seenSignatures cells
    let near := (sigs.filter (fun (g : Nat) => decide (|(g : Int) - avg| ≤ t.tf))).length
    decide (t.fPercent * sigs.length ≤ (near : Int) * 100) && decide ((avg : Int) < t.nearLimit)

/-- The points of the unmasked cells (R110). -/
def unmaskedPoints (mask : BitVec 16) (points : List Point) : List Point :=
  (List.range 16).flatMap fun k => if mask.getLsbD k then [] else cellPoints points k

/-- The average strength of the unmasked points (R110). A point enters with the strength the head sent for it, one with no return
too (log entry 42). -/
def averageStrength (mask : BitVec 16) (points : List Point) : Nat :=
  let ps := unmaskedPoints mask points
  (ps.map (·.strength)).sum / ps.length

/-- The line is judged low-return (R110). -/
def judgedLow (t : Tuning) (mask : BitVec 16) (points : List Point) : Bool :=
  decide ((averageStrength mask points : Int) < t.lineMin)

/-- The signatures that form a side's ski surface: unmasked, not VOID, not standing out (R107). -/
def skiSignatures (r : CellRange) (cells : List Cell) : List Nat :=
  (((cells.drop r.first).take (r.last + 1 - r.first)).filter (fun c => !c.masked && !c.standing)).filterMap (·.signature)

/-- A side's ski surface from a line, absent when no cell gives one (R107). -/
def skiSurface (r : CellRange) (cells : List Cell) : Option Int :=
  match skiSignatures r cells with
  | [] => none
  | sigs => some ((sigs.sum / sigs.length : Nat) : Int)

/-- A cell's difference count against a reference signature (R125). -/
def differenceCount (least threshold : Int) (ref : Nat) (points : List Point) : Nat :=
  ((points.filter (pointValid least)).filter (fun q => decide (threshold < |(q.range : Int) - ref|))).length

/-- Cell `k` stands out against a reference (R125). -/
def standsOut (t : Tuning) (mask : BitVec 16) (ref : Option (List (Option Nat))) (points : List Point) (k : Nat) : Bool :=
  if mask.getLsbD k then false
  else
    match ref with
    | none => false
    | some sigs =>
      match sigs.getD k none with
      | none => false
      | some sig => decide (t.ns ≤ (differenceCount t.pointMin t.t sig (cellPoints points k) : Int))

/-- The standing-out marks of a line (R125). -/
def standingMarks (t : Tuning) (mask : BitVec 16) (ref : Option (List (Option Nat))) (points : List Point) : List Bool :=
  (List.range 16).map (standsOut t mask ref points)

/-- Cells with their standing-out marks set. -/
def markCells (cells : List Cell) (marks : List Bool) : List Cell :=
  cells.zipWith (fun c b => { c with standing := b }) marks

/-- Run count and membership of one condition member after a line (R111): `present` is the member, `argues` the judgement. -/
def conditionStep (limit : Int) (present argues : Bool) (run : Nat) : Bool × Nat :=
  if present = argues then (present, 0)
  else if limit ≤ ((run + 1 : Nat) : Int) then (argues, 0) else (present, run + 1)

/-! ### The belt (chapters 8 and 9) -/

/-- P = trunc((max(L, 0) + max(R, 0)) × W × swell / 20,000) (R142). -/
def parcelVolume (l r w swell : Int) : Nat := (truncDiv ((max l 0 + max r 0) * w * swell) 20000).toNat

/-- The sum of the volumes of parcels. -/
def volumeOf (ps : List Parcel) : Nat := (ps.map (·.vol)).sum

/-- B, the belt content (R146). -/
def State.beltContent (s : State) : Nat := volumeOf s.load.parcels

/-- Hc = trunc(C_b × Lb / 1000), formed once both are set (R148). -/
def State.hc (s : State) : Option Int :=
  match s.geo.lb, s.geo.cb with
  | some lb, some cb => some (truncDiv (cb * lb) 1000)
  | _, _ => none

/-- The loading-point limit trunc(C_b × Lp / 1000), formed once Lb and C_b are set (R174, R181). -/
def State.loadingLimit (s : State) : Option Int :=
  match s.geo.lb, s.geo.cb with
  | some _, some cb => some (truncDiv (cb * s.tun.lp) 1000)
  | _, _ => none

/-- The volume near the discharge end: parcels at or above Lb − Lt (R153). -/
def State.nearDischarge (s : State) : Nat :=
  match s.geo.lb with
  | some lb => volumeOf (s.load.parcels.filter (fun q => decide (lb - s.tun.lt ≤ (q.pos : Int))))
  | none => 0

/-- The volume near the loading point: parcels below Lp (R153). -/
def State.nearLoading (s : State) : Nat :=
  volumeOf (s.load.parcels.filter (fun q => decide ((q.pos : Int) < s.tun.lp)))

/-- The head truck (R161). -/
def State.head (s : State) : Option Truck := s.tqs.trucks.head?

/-- A truck that can take material (R150). -/
def Truck.takes (t : Truck) : Bool := t.state = .inPosition || t.state = .loading

/-- A truck's need, in cm³ (R150). -/
def Truck.need (t : Truck) : Nat := t.target * 1000 - t.fill

/-- The belt speed command of RUNNING (R172). -/
def State.runCommand (s : State) : Int :=
  let p : Int := if s.lifted then 0 else s.load.lastParcel
  let v : Int := if 0 < s.trc.advance then s.trc.advance else 0
  let q := truncDiv (p * v) 100
  let cb := s.geo.cb.getD 1
  let vb := (q * 1000 + (cb - 1)) / cb
  min (max vb s.tun.vbMin) s.env.vbMax

/-- The belt speed command of TOPPING (R166, R169). -/
def State.toppingCommand (s : State) : Int := min s.tun.vbMin s.env.vbMax

/-- The conveyor gives a contribution to the permit (R174). -/
def State.conveyorConsidered (s : State) : Bool :=
  match s.target with
  | .set => true
  | .plan => s.plt.disposition.loads

/-- The conveyor's contribution by its state (R174). -/
def State.conveyorContribution (s : State) : Permit :=
  match s.tqs.conveyor with
  | .running =>
    match s.hc with
    | some hc => if (s.beltContent : Int) * 4 < hc * 3 then .go else .slow
    | none => .slow
  | .topping => .slow
  | .waiting | .hold | .stopped =>
    match s.loadingLimit with
    | some limit => if limit ≤ (s.nearLoading : Int) then .stop else .slow
    | none => .slow

/-- A channel is HELD with SOURCE among its causes (R174). -/
def Channel.asksSlow (c : Channel) : Bool := c.state = .held && c.holdSource

/-- The conveyor's contribution, GO when it is not considered. -/
def State.conveyorInput (s : State) : Permit :=
  if s.conveyorConsidered then s.conveyorContribution else .go

/-- A channel asks for SLOW. -/
def State.sourceInput (s : State) : Bool := s.chL.asksSlow || s.chR.asksSlow

/-- The advance permit by its inputs (R174). -/
def State.permitOf (s : State) : Permit :=
  if s.eStop || s.clp.silent || s.conveyorInput = .stop then .stop
  else if s.sourceInput || s.conveyorInput = .slow then .slow
  else .go

/-- The level of the SLOW line by the permit, asserted or released (R175). -/
def Permit.slowLine : Permit → Bool
  | .go => false
  | .slow => true
  | .stop => true

/-- The level of the STOP line by the permit (R175). -/
def Permit.stopLine : Permit → Bool
  | .go => false
  | .slow => false
  | .stop => true

/-- The SLOW line that TQS drives: it takes its level with the permit (R175, R177). -/
def State.slowLine (s : State) : Bool := s.tqs.permit.slowLine

/-- The STOP line that TQS drives (R175, R177). -/
def State.stopLine (s : State) : Bool := s.tqs.permit.stopLine

/-- The permit reasons: the inputs whose contribution equals the permit; none under GO (R174). -/
def State.reasonsOf (s : State) : PermitReasons :=
  match s.permitOf with
  | .stop => ⟨s.eStop, s.clp.silent, false, s.conveyorInput = .stop⟩
  | .slow => ⟨false, false, s.sourceInput, s.conveyorInput = .slow⟩
  | .go => ⟨false, false, false, false⟩

end Sys2Proof.Machine
end

