-- ==== Sys2Proof/Machine/Flags.lean ====
section
/-! DEFINITION. Queuing a report in CLP (R194), and setting, capturing and clearing the sticky flags of CST (chapter 7). -/

namespace Sys2Proof.Machine

/-- The bit of a report kind. -/
def ReportKind.bit (k : ReportKind) : BitVec 9 := 1#9 <<< k.code

/-- A set of report kinds holds a kind. -/
def holdsKind (m : BitVec 9) (k : ReportKind) : Bool := m.getLsbD k.code

/-- A block queues a report: the kind joins the pending set when it is enabled (R194). -/
def queueReport (k : ReportKind) (s : State) : State :=
  if holdsKind s.clp.enabled k then { s with clp := { s.clp with waiting := s.clp.waiting ||| k.bit } } else s

/-- A report queued only when `b` holds. -/
def queueIf (b : Bool) (k : ReportKind) (s : State) : State := if b then queueReport k s else s

/-- The bit of a flag. -/
def Flag.bit (f : Flag) : BitVec 13 := 1#13 <<< f.code

/-- A flag is set. -/
def State.flagSet (s : State) (f : Flag) : Bool := s.cst.flags.getLsbD f.code

/-- ANY (R134). -/
def State.anyFlag (s : State) : Bool := s.cst.flags ≠ 0

/-- The source a locus names for a flag (R138). -/
def Flag.source : Flag → LocusSource
  | .lSat => .chL
  | .lSrcLoss => .chL
  | .lClamp => .chL
  | .rSat => .chR
  | .rSrcLoss => .chR
  | .rClamp => .chR
  | .merge => .blt
  | .beltOver => .blt
  | .spill => .blt
  | .stall => .tqs
  | .scanOverrun => .spr
  | .chainageLimit => .trc
  | .lockedWrite => .mpr

/-- The capture of a clear-to-set change while the arm is armed: locus, count, FAULT report, arm down (R138). -/
def captureFault (f : Flag) (s : State) : State :=
  let l : Locus := ⟨f, f.source, s.drum, s.runningTime⟩
  let s := { s with cst := { s.cst with locus := some l, captures := wrapInc s.cst.captures } }
  let s := queueReport .fault s
  { s with cst := { s.cst with armed := false } }

/-- An owner sets a flag (R132): a clear flag becomes set and may fire the arm; a set flag changes nothing. -/
def setFlag (f : Flag) (s : State) : State :=
  if s.flagSet f then s
  else
    let s' := { s with cst := { s.cst with flags := s.cst.flags ||| f.bit } }
    if s'.cst.armed then captureFault f s' else s'

/-- A flag set only when `b` holds. -/
def setFlagIf (b : Bool) (f : Flag) (s : State) : State := if b then setFlag f s else s

/-- The named flags cleared (R135). -/
def clearFlags (mask : BitVec 13) (s : State) : State :=
  { s with cst := { s.cst with flags := s.cst.flags &&& ~~~mask } }

end Sys2Proof.Machine
end

