-- ==== Sys2Proof/Machine/Layouts.lean ====
section
/-! DEFINITION. The values of replies and reports as bytes (R202, section 11.8), and the contents of the nine reports, formed
from the state at the moment of sending. Widths and orders a rule leaves to be read are log entries 15 to 18. -/

namespace Sys2Proof.Machine

/-! ### Fields -/

/-- A yes/no or on/off value. -/
def fBool (b : Bool) : List Byte := [if b then 1 else 0]

/-- A one-byte count or code. -/
def f8 (n : Nat) : List Byte := bytesBE 1 n

/-- A two-byte unsigned value. -/
def f16 (n : Nat) : List Byte := bytesBE 2 n

/-- A four-byte unsigned value. -/
def f32 (n : Nat) : List Byte := bytesBE 4 n

/-- A volume counter. -/
def f64 (n : Nat) : List Byte := bytesBE 8 n

/-- A depth, a valve command or another two-byte signed value. -/
def fDepth (x : Int) : List Byte := bytesBE 2 x

/-- A chainage. -/
def fChainage (x : Int) : List Byte := bytesBE 4 x

/-- A speed in two bytes; a speed that does not fit them is left open (log entry 13). -/
def fSpeed (x : Int) : List Byte :=
  if fitsSigned16 x then bytesBE 2 x else bytesBE 2 (Config.speedCode x).toNat

/-- A value that may be absent: a presence byte, then the value's `n` bytes, 0 when absent (R202). -/
def fOpt {α : Type} (n : Nat) (enc : α → List Byte) : Option α → List Byte
  | some x => 1 :: enc x
  | none => 0 :: List.replicate n 0

/-- A set of up to eight members, the first as bit 0. -/
def fSet (members : List Bool) : List Byte :=
  f8 (members.foldr (fun b acc => (if b then 1 else 0) + 2 * acc) 0)

/-- The flag set. -/
def fFlags (s : State) : List Byte := f16 s.cst.flags.toNat

def fLiftCauses (c : LiftCauses) : List Byte := fSet [c.manual, c.plan, c.window]

def fHoldCauses (c : Channel) : List Byte := fSet [c.holdSource, c.holdLink]

def fReasons (r : PermitReasons) : List Byte := fSet [r.estop, r.link, r.source, r.conveyor]

/-- The scanner condition: OFF, CLEAR, FOULED, LOW_RETURN (R111). -/
def fCondition (p : Spr) : List Byte :=
  fSet [!p.enable, p.enable && !p.fouled && !p.lowReturn, p.enable && p.fouled, p.enable && p.lowReturn]

/-! ### Records -/

def fSegment (g : Segment) : List Byte := Segment.bytes g

def fMarker (k : Marker) : List Byte :=
  f8 k.id ++ fChainage k.m ++ bytesBE 2 k.lead ++ bytesBE 2 k.trail ++ f8 k.origin.code ++ f8 k.state.code

def fTruck (t : Truck) : List Byte := f16 t.id ++ f16 t.target ++ f32 t.fill ++ f8 t.state.code

def fParcel (q : Parcel) : List Byte := f64 q.vol ++ f16 q.pos

def fFullTruck (t : FullTruck) : List Byte := f16 t.id ++ f16 t.target ++ f32 t.fill

def fLocus (l : Locus) : List Byte := f8 l.flag.code ++ f8 l.source.code ++ fChainage l.drum ++ f32 l.time

/-- A count of returned records followed by the records (R202). -/
def fRecords {α : Type} (enc : α → List Byte) (xs : List α) : List Byte := f8 xs.length ++ xs.flatMap enc

/-- The records of indices `first` to `first + n − 1`, where n is the smaller of `count` and what is there (R42, R82, R156). -/
def window {α : Type} (first count : Nat) (xs : List α) : List α := (xs.drop first).take count

def fScanCounters (c : ScanCounters) : List Byte :=
  f32 c.sent ++ f32 c.completed ++ f32 c.missed ++ f32 c.timedOut ++ f32 c.stray ++ f32 c.bad ++ f32 c.overruns

def fFrameCounters (c : FrameCounters) : List Byte :=
  f32 c.valid ++ f32 c.crc ++ f32 c.format ++ f32 c.gap ++ f32 c.dropped ++ f32 c.replies ++ f32 c.reports

/-- The splice record (R40, R42). -/
def fSplice (p : Plt) : List Byte :=
  f8 p.splice.code ++ f8 p.lastEvent.code ++ fChainage p.a ++ fChainage p.b ++ fChainage p.p ++ f8 p.stepIndex

/-- The five counters and B (R145, R156, R157). -/
def fVolumes (s : State) : List Byte :=
  f64 s.load.vc ++ f64 s.load.vd ++ f64 s.load.vw ++ f64 s.load.vs ++ f64 s.load.vx ++ f64 s.beltContent

/-- The last belt parcel volume: 0 to 352,000, so three bytes. -/
def fLastParcel (s : State) : List Byte := bytesBE 3 s.load.lastParcel

/-! ### The contents of the reports -/

/-- STATE: channel states and hold causes (R52), the lift-cause set and lifted (R86), the conveyor state (R166). -/
def stateReport (s : State) : List Byte :=
  f8 s.chL.state.code ++ fHoldCauses s.chL ++ f8 s.chR.state.code ++ fHoldCauses s.chR ++
  fLiftCauses s.mlc.causes ++ fBool s.lifted ++ f8 s.tqs.conveyor.code

/-- One side of a GRADE report (R72). -/
def gradeSide (c : Channel) : List Byte :=
  f8 c.state.code ++ fBool c.onGrade ++ fDepth c.dCmd ++ fDepth c.dMeas

/-- GRADE (R72). -/
def gradeReport (s : State) : List Byte := gradeSide s.chL ++ gradeSide s.chR

/-- FAULT (R139). -/
def faultReport (s : State) : List Byte :=
  fFlags s ++ fBool s.anyFlag ++ fBool s.cst.armed ++ fOpt 10 fLocus s.cst.locus ++ f16 s.cst.captures

/-- TRUCK_FULL (R170). -/
def truckFullReport (s : State) : List Byte :=
  fOpt 8 fFullTruck s.tqs.lastFull ++ f16 s.tqs.fullCount ++ f8 s.tqs.trucks.length ++ f8 s.tqs.conveyor.code

/-- PERMIT (R175). -/
def permitReport (s : State) : List Byte :=
  f8 s.tqs.permit.code ++ fReasons s.tqs.reasons ++ f8 s.tqs.conveyor.code ++ f64 s.beltContent ++ f64 s.nearLoading

/-- MARKER (R92). -/
def markerReport (s : State) : List Byte :=
  let e := s.mlc.lastEvent
  f8 e.kind.code ++ f8 e.id ++ fChainage e.m ++ bytesBE 2 e.lead ++ bytesBE 2 e.trail ++ f8 e.origin.code ++
  f8 s.mlc.markers.length ++ f16 s.mlc.lost ++ f16 s.mlc.eventCount

/-- One side's ski surface and whether it is valid (R112). -/
def skiSide (s : State) (side : Side) : List Byte :=
  fOpt 2 fDepth ((s.ski side).map (·.surface)) ++ fBool (s.skiValid side)

/-- SCANNER (R112). -/
def scannerReport (s : State) : List Byte :=
  fBool s.spr.enable ++ fCondition s.spr ++ f8 s.spr.fouledRun ++ f8 s.spr.lowRun ++
  skiSide s .L ++ skiSide s .R ++ fScanCounters s.spr.counters

/-- SPLICE (R40). -/
def spliceReport (s : State) : List Byte :=
  fSplice s.plt ++ f8 s.plt.staging.length ++ f8 s.plt.plan.length

/-- One side of the TELEMETRY record (section 11.8). -/
def telemetrySide (c : Channel) : List Byte :=
  f8 c.state.code ++ fDepth c.dMeas ++ fDepth c.dCmd ++ fDepth c.valve

/-- TELEMETRY (section 11.8). -/
def telemetryReport (s : State) : List Byte :=
  fChainage s.chainage ++ fChainage s.drum ++ fSpeed s.trc.advance ++ fSpeed s.trc.beltSpeed ++
  telemetrySide s.chL ++ telemetrySide s.chR ++ fBool s.lifted ++ fBool s.anyFlag ++ f64 s.beltContent ++
  f8 s.load.parcels.length ++ f8 s.tqs.conveyor.code ++ fSpeed s.tqs.cmd ++ f8 s.tqs.permit.code

/-- The content of a report, formed from the state at this moment (R193). -/
def reportContent (k : ReportKind) (s : State) : List Byte :=
  match k with
  | .state => stateReport s
  | .grade => gradeReport s
  | .fault => faultReport s
  | .truckFull => truckFullReport s
  | .permit => permitReport s
  | .marker => markerReport s
  | .scanner => scannerReport s
  | .splice => spliceReport s
  | .telemetry => telemetryReport s

/-- The frame of a report, sent with tag 0 (R193). -/
def reportFrame (k : ReportKind) (s : State) : Frame :=
  ⟨BitVec.ofNat 8 (0xE0 + k.code), 0, reportContent k s⟩

/-! ### The contents of the long replies -/

/-- GET_PLAN (R42). -/
def planValues (first count : Nat) (s : State) : List Byte :=
  f8 s.plt.plan.length ++ f8 s.plt.staging.length ++ fSplice s.plt ++
  fRecords fSegment (window first count s.plt.plan)

/-- GET_MARKERS (R82). -/
def markersValues (first count : Nat) (s : State) : List Byte :=
  f8 s.mlc.markers.length ++ f8 s.mlc.nextId ++ f16 s.mlc.lost ++ f16 s.mlc.eventCount ++
  fLiftCauses s.mlc.causes ++ fBool s.lifted ++ fOpt 2 fDepth s.mlc.returnDepth ++
  fRecords fMarker (window first count s.mlc.markers)

/-- GET_LOADING (R156). -/
def loadingValues (first count : Nat) (s : State) : List Byte :=
  fVolumes s ++ fOpt 3 (bytesBE 3) s.hc ++ fLastParcel s ++ f64 s.nearDischarge ++ f64 s.nearLoading ++
  f8 s.load.parcels.length ++ fRecords fParcel (window first count s.load.parcels)

/-- The age of a side's ski surface in ms, capped at 65,535 (R113). -/
def skiAge (s : State) (k : Ski) : Nat := min Config.count16Max (s.now - k.instant)

/-- One side's surface, age and validity in the GET_PROFILE reply (R113). -/
def profileSide (s : State) (side : Side) : List Byte :=
  fOpt 4 (fun k => fDepth k.surface ++ f16 (skiAge s k)) (s.ski side) ++ fBool (s.skiValid side)

/-- One cell in the GET_PROFILE reply (R113). -/
def fCell (c : Cell) : List Byte :=
  fOpt 2 f16 c.signature ++ f8 c.valid ++ fBool c.masked ++ fBool c.standing

/-- The latest cell record (R113). -/
def fCellRecord (r : CellRecord) : List Byte :=
  f8 r.number ++ fChainage r.scanAt ++ f8 r.mark.code ++ fBool r.fouled ++ fBool r.low ++ f16 r.lineAvg ++
  f8 r.strength ++ r.cells.flatMap fCell

/-- GET_PROFILE (R113). -/
def profileValues (s : State) : List Byte :=
  fBool s.spr.enable ++ fCondition s.spr ++ f8 s.spr.fouledRun ++ f8 s.spr.lowRun ++
  fOpt 1 f8 (s.spr.awaited.map (·.number)) ++ f8 s.spr.buffer.length ++
  profileSide s .L ++ profileSide s .R ++ fOpt 107 fCellRecord s.spr.latest ++
  f16 s.chd.mask.toNat ++ fScanCounters s.spr.counters

/-- GET_FAULT (R140). -/
def getFaultValues (s : State) : List Byte :=
  fFlags s ++ fBool s.anyFlag ++ fBool s.cst.armed ++ fOpt 10 fLocus s.cst.locus ++ f16 s.cst.captures ++
  f32 s.runningTime

/-- Belt travel: its greatest value, (2^63 − 1) × 1000 / 100, needs nine bytes (R202, log entry 16). -/
def fBeltTravel (s : State) : List Byte := bytesBE 9 s.beltTravel

/-- GET_STATUS part 0, ROAD (R15, R22, R93, R130). Of the two rejected counts travel comes first (log entry 39). -/
def roadValues (s : State) : List Byte :=
  fChainage s.chainage ++ fChainage s.drum ++ fChainage s.trc.hw ++ fSpeed s.trc.advance ++ fSpeed s.trc.beltSpeed ++
  fBeltTravel s ++ f16 s.trc.rejectedTravel ++ f16 s.trc.rejectedBelt ++
  f8 s.plt.disposition.code ++ fBool s.plt.covered ++
  fLiftCauses s.mlc.causes ++ fBool s.lifted ++ fOpt 2 fDepth s.mlc.returnDepth ++ f8 s.mlc.markers.length ++
  f16 s.mlc.lost ++ f16 s.mlc.eventCount ++
  f8 s.chd.mode.code ++ bytesBE 1 s.tun.k ++ f8 s.chd.det.code ++ f8 s.chd.n ++ f8 s.chd.quiet ++
  fOpt 4 fChainage s.chd.runStart ++ f8 s.chd.history.length ++ fOpt 4 fChainage s.chd.lastAt ++ f8 s.chd.stepCount ++
  fOpt 5 (fun r => f8 r.number ++ fChainage r.scanAt) s.chd.held ++
  fBool (s.chd.condition || s.chd.geometry) ++ fSet [s.chd.condition, s.chd.geometry] ++
  f16 s.chd.trips ++ fOpt 4 fChainage s.chd.lastTrip

/-- One side of GET_STATUS part 1 (R73). The presence byte of a sensor value is its validity (log entry 40). -/
def channelValues (c : Channel) : List Byte :=
  f8 c.state.code ++ fHoldCauses c ++ f8 c.mode.code ++ fBool c.returning ++ fBool c.onGrade ++ fBool c.sourceValid ++
  fOpt 2 fDepth c.plate ++ fOpt 2 fDepth c.leg ++ fOpt 2 fDepth c.slope ++
  fDepth c.dMeas ++ fDepth c.dCmd ++ fOpt 2 fDepth c.goal ++ fDepth c.heldGoal ++ fDepth c.valve ++
  fDepth c.depthSet ++ fDepth c.slopeSet ++ fDepth c.trim

/-- GET_STATUS part 1, CHANNELS (R73). -/
def channelsValues (s : State) : List Byte := channelValues s.chL ++ channelValues s.chR ++ f8 s.target.code

/-- GET_STATUS part 2, SCANNER (R114). -/
def scannerValues (s : State) : List Byte :=
  fBool s.spr.enable ++ fCondition s.spr ++ fBool (s.skiValid .L) ++ fBool (s.skiValid .R) ++ fScanCounters s.spr.counters

/-- GET_STATUS part 3, LOADING (R157, R177); the trucks come last (R202, log entry 17). -/
def loadingStatus (s : State) : List Byte :=
  fVolumes s ++ f8 s.load.parcels.length ++ fLastParcel s ++
  f8 s.tqs.conveyor.code ++ fSpeed s.tqs.cmd ++ f8 s.tqs.stall ++
  fOpt 8 fFullTruck s.tqs.lastFull ++ f16 s.tqs.fullCount ++ f8 s.tqs.permit.code ++ fReasons s.tqs.reasons ++
  f64 s.nearDischarge ++ f64 s.nearLoading ++ fOpt 3 (bytesBE 3) s.loadingLimit ++
  fRecords fTruck s.tqs.trucks

/-- GET_STATUS part 4, STATUS (R199). -/
def statusValues (s : State) : List Byte :=
  fFlags s ++ fBool s.anyFlag ++ fBool s.cst.armed ++ fBool s.mpr.lock ++ fBool s.mpr.calOpen ++ fBool s.eStop ++
  fBool s.clp.silent ++ f16 s.clp.enabled.toNat ++ bytesBE 2 s.tun.telemetryPeriod ++
  fFrameCounters s.clp.counters ++ f32 s.runningTime

end Sys2Proof.Machine
end

