-- ==== Sys2Proof/Machine/Ops.lean ====
section
/-! DEFINITION. The operations several events share: forming the permit, the lift-cause set, the disposition at the drum,
changes of channel state, changes of conveyor state, marker events and the entry of a trip into the marker list. -/

namespace Sys2Proof.Machine

/-- The state with one channel replaced. -/
def State.setCh (s : State) (side : Side) (c : Channel) : State :=
  match side with
  | .L => { s with chL := c }
  | .R => { s with chR := c }

/-! ### The advance permit -/

/-- TQS forms the permit again; a changed permit queues a PERMIT report (R174, R175). -/
def formPermit (s : State) : State :=
  let p := s.permitOf
  let t := { s with tqs := { s.tqs with permit := p, reasons := s.reasonsOf } }
  queueIf (p ≠ s.tqs.permit) .permit t

/-! ### The lift-cause set -/

/-- The slope-side return depth that a capture takes: d_cmd of the SLOPE side, absent when neither side is SLOPE (R91). -/
def State.capturedReturn (s : State) : Option Int :=
  if s.chL.mode = .slope then some s.chL.dCmd
  else if s.chR.mode = .slope then some s.chR.dCmd
  else none

/-- The lift-cause set takes a new value: a set that leaves empty captures the return depth unless a channel is RETURNING
(R91), and a change queues a STATE report (R86). -/
def setCauses (c : LiftCauses) (s : State) : State :=
  if c = s.mlc.causes then s
  else
    let captures := !s.mlc.causes.nonEmpty && c.nonEmpty && !s.chL.returning && !s.chR.returning
    let depth := if captures then s.capturedReturn else s.mlc.returnDepth
    queueReport .state { s with mlc := { s.mlc with causes := c, returnDepth := depth } }

/-- PLAN belongs in the set (R85): the disposition at the drum lifts and the target source is PLAN. The set is held empty
under E-stop (R90). -/
def State.planCause (s : State) : Bool := !s.eStop && s.plt.disposition.lifts && s.target = .plan

/-- WINDOW belongs in the set (R85): at least one marker is ACTIVE, and the set is not held empty by E-stop (R90). -/
def State.windowCause (s : State) : Bool := !s.eStop && s.mlc.markers.any (fun k => k.state = .active)

/-- MLC re-forms PLAN (R85). -/
def reformPlan (s : State) : State := setCauses { s.mlc.causes with plan := s.planCause } s

/-- MLC re-forms WINDOW (R85). -/
def reformWindow (s : State) : State := setCauses { s.mlc.causes with window := s.windowCause } s

/-! ### The disposition at the drum -/

/-- PLT keeps the disposition and the covered part of a lookup at the drum. -/
def keepDisposition (s : State) : State :=
  let r := s.lookup s.drum
  { s with plt := { s.plt with disposition := r.disposition, covered := r.covered } }

/-- PLT re-forms the disposition at the drum and hands a changed one to MLC and to TQS (R22). -/
def reformDisposition (s : State) : State :=
  let t := keepDisposition s
  if t.plt.disposition = s.plt.disposition then t else formPermit (reformPlan t)

/-! ### Channel states -/

/-- A channel entered OFF (R46, R66, R73): valve 0, causes cleared, jog ended, RETURNING and lifted at last cycle no,
on-grade counter 0, goal absent. -/
def Channel.toOff (c : Channel) : Channel :=
  { c with
    state := .off
    holdSource := false
    holdLink := false
    goal := none
    returning := false
    lastLifted := false
    valve := 0
    jogValue := 0
    jogLeft := 0
    grade := 0 }

/-- The channel state or the hold causes differ (R52). -/
def Channel.stateDiffers (c d : Channel) : Bool :=
  c.state ≠ d.state || c.holdSource ≠ d.holdSource || c.holdLink ≠ d.holdLink

/-- A channel takes a new value; a change of its state or hold causes queues a STATE report (R52) and a change of ON_GRADE a
GRADE report (R72). -/
def changeChannel (side : Side) (c : Channel) (s : State) : State :=
  let old := s.ch side
  let t := s.setCh side c
  let t := queueIf (c.stateDiffers old) .state t
  queueIf (c.onGrade ≠ old.onGrade) .grade t

/-- MLC removes MANUAL when a channel has left AUTO for OFF and none is in AUTO (R89). -/
def dropManual (s : State) : State := setCauses { s.mlc.causes with manual := false } s

/-- A channel enters OFF from any state; one already OFF is unchanged (R46, R89). -/
def enterOff (side : Side) (s : State) : State :=
  let c := s.ch side
  if c.state = .off then s
  else
    let t := changeChannel side c.toOff s
    if c.state = .auto ∧ t.anyAuto = false then dropManual t else t

/-- Link silence reaches a channel (R50); ON_GRADE falls at the transition to HELD (R72, log entry 10). -/
def linkHold (side : Side) (s : State) : State :=
  let c := s.ch side
  match c.state with
  | .auto =>
    changeChannel side { c with state := .held, holdSource := false, holdLink := true, valve := 0, grade := 0 } s
  | .held => changeChannel side { c with holdLink := true } s
  | .jog => enterOff side s
  | .off => s

/-! ### The conveyor -/

/-- The conveyor enters a state with its belt speed command; a change queues a STATE report (R166). -/
def enterConveyor (v : Conveyor) (cmd : Int) (s : State) : State :=
  let t := { s with tqs := { s.tqs with conveyor := v, cmd := cmd } }
  queueIf (v ≠ s.tqs.conveyor) .state t

/-- The topping test is met: the head's fill and the volume near the discharge end reach its target (R169). -/
def State.toppingMet (s : State) : Bool :=
  match s.head with
  | some t => decide (t.target * 1000 ≤ t.fill + s.nearDischarge)
  | none => false

/-- TQS makes the topping test in RUNNING (R169). -/
def toppingTest (s : State) : State :=
  if s.tqs.conveyor = .running ∧ s.toppingMet then enterConveyor .topping s.toppingCommand s else s

/-- The head truck's state replaced. -/
def setHead (f : Truck → Truck) (s : State) : State :=
  match s.tqs.trucks with
  | [] => s
  | t :: rest => { s with tqs := { s.tqs with trucks := f t :: rest } }

/-- The conveyor enters RUNNING (R168): the head becomes LOADING, the command is formed, the stall count is 0 and the topping
test is made. -/
def enterRunning (s : State) : State :=
  let s := setHead (fun t => { t with state := .loading }) s
  let s := { s with tqs := { s.tqs with stall := 0 } }
  toppingTest (enterConveyor .running s.runCommand s)

/-- The conveyor enters STOPPED with command 0 and stall count 0 (R171, R173, R176). -/
def stopConveyor (s : State) : State :=
  let s := { s with tqs := { s.tqs with stall := 0 } }
  enterConveyor .stopped 0 s

/-- BLT hands TQS a list change: topping test, then the permit (R153, R169, R175). -/
def handListChange (s : State) : State := formPermit (toppingTest s)

/-! ### Marker events -/

/-- MLC counts and records a marker event (section 4.1). -/
def recordEvent (kind : MarkerEventKind) (k : Marker) (s : State) : State :=
  { s with mlc := { s.mlc with
      eventCount := wrapInc s.mlc.eventCount
      lastEvent := ⟨kind, k.id, k.m, k.lead, k.trail, k.origin⟩ } }

/-- A new marker enters the list with its id (R77), its state formed at the drum chainage. -/
def insertNewMarker (m lead trail : Int) (origin : Origin) (s : State) : State × Marker :=
  let id := s.mlc.newId
  let k : Marker := Marker.formed s.drum ⟨id, m, lead, trail, origin, .armed⟩
  ({ s with mlc := { s.mlc with markers := insertMarker k s.mlc.markers, nextId := nextIdAfter id } }, k)

/-- The marker a trip at `m` extends (R83): the one at `m`, else the one of greatest chainage whose window holds `m`. -/
def markerToExtend (m : Int) (ks : List Marker) : Option Marker :=
  match ks.find? (fun k => k.m = m) with
  | some k => some k
  | none => (ks.filter (fun k => k.inWindow m)).getLast?

/-- The extension of a marker by a trip (R83). -/
def extendMarker (m : Int) (k : Marker) (s : State) : State :=
  let t' := min 20000 (max k.trail (m + s.tun.autoTrail - k.m))
  if t' = k.trail then s
  else
    let k' := Marker.formed s.drum { k with trail := t' }
    let ks := s.mlc.markers.map (fun x => if x.id = k.id then k' else x)
    let s := { s with mlc := { s.mlc with markers := ks } }
    queueReport .marker (recordEvent .extended k' (reformWindow s))

/-- A trip finds no marker to extend: a SCANNER marker is made, or the detection is lost on a full list (R84). -/
def createFromTrip (m : Int) (s : State) : State :=
  if s.mlc.markers.length < 16 then
    let (s, k) := insertNewMarker m s.tun.autoLead s.tun.autoTrail .scanner s
    queueReport .marker (recordEvent .created k (reformWindow s))
  else
    let s := { s with mlc := { s.mlc with lost := satInc Config.count16Max s.mlc.lost } }
    queueReport .marker (recordEvent .lost ⟨0, m, 0, 0, .scanner, .armed⟩ s)

/-- A trip at chainage `m` reaches MLC (R83, R84). -/
def takeTrip (m : Int) (s : State) : State :=
  match markerToExtend m s.mlc.markers with
  | some k => extendMarker m k s
  | none => createFromTrip m s

end Sys2Proof.Machine
end

