-- ==== Sys2Proof/Machine/Transmitter.lean ====
section
/-! DEFINITION. The transmitter of the Control Link (R193). Every event ends with the choice of an IDLE transmitter, but the
power-on event (log entry 8). -/

namespace Sys2Proof.Machine

/-- The pending kind of lowest number (R193). -/
def nextReport (waiting : BitVec 9) : Option ReportKind := ReportKind.all.find? (holdsKind waiting)

/-- One of the frame counters increased, saturating. -/
def countFrames (f : FrameCounters → FrameCounters) (s : State) : State :=
  { s with clp := { s.clp with counters := f s.clp.counters } }

/-- The waiting reply leaves the slot as its transmission begins (R193). -/
def sendReply (f : Frame) (s : State) : State :=
  countFrames (fun c => { c with replies := satInc Config.count32Max c.replies })
    { s with clp := { s.clp with tx := some f, slot := none } }

/-- A pending kind leaves the set and is sent with the content of this moment (R193). -/
def sendReport (k : ReportKind) (s : State) : State :=
  countFrames (fun c => { c with reports := satInc Config.count32Max c.reports })
    { s with clp := { s.clp with tx := some (reportFrame k s), waiting := s.clp.waiting &&& ~~~k.bit } }

/-- An IDLE transmitter chooses the next frame: the reply slot, else the pending kind of lowest number, else none (R193). -/
def startTx (s : State) : State :=
  match s.clp.tx, s.clp.slot, nextReport s.clp.waiting with
  | some _, _, _ => s
  | none, some f, _ => sendReply f s
  | none, none, some k => sendReport k s
  | none, none, none => s

end Sys2Proof.Machine
end

