-- ==== Sys2Proof/Machine/Answers.lean ====
section
/-! DEFINITION. The two ways an owner answers a request (R192). -/

namespace Sys2Proof.Machine

/-- A refused request: the result code alone, and nothing changes (R192). -/
def refuse (code : ResultCode) (s : State) : State × Answer := (s, ⟨code, []⟩)

/-- An accepted request: OK and the values its owner's rule names (R192). -/
def accept (values : List Byte) (s : State) : State × Answer := (s, ⟨.ok, values⟩)

/-- An accepted request that clamped its value: OK_CLAMPED (R47, R54, R55). -/
def acceptClamped (clamped : Bool) (s : State) : State × Answer := (s, ⟨if clamped then .okClamped else .ok, []⟩)

end Sys2Proof.Machine
end

