-- ==== Sys2Proof/Machine/Channels.lean ====
section
/-! DEFINITION. The depth channels (chapter 3): the loop cycle, jogs, ENGAGE and DISENGAGE, the target source and the operator
values; and the marker evaluation MLC makes at each loop cycle of DCH-L (R79, R80). -/

namespace Sys2Proof.Machine

/-! ### Marker evaluation (R79, R80) -/

/-- The marker has been passed out: its window end + B_behind is at or below the drum (R80). -/
def Marker.passedOut (behind drum : Int) (k : Marker) : Bool := decide (k.windowEnd + behind ≤ drum)

/-- Each removed marker is counted and recorded, and a MARKER report queued (R80), in list order (log entry 20). -/
def recordPassedOut (s : State) (k : Marker) : State := queueReport .marker (recordEvent .passedOut k s)

/-- MLC evaluates the marker list at the drum chainage of the cycle (R79, R80). -/
def evaluateMarkers (drum : Int) (s : State) : State :=
  let formed := s.mlc.markers.map (Marker.formed drum)
  let gone := formed.filter (Marker.passedOut s.tun.bBehind drum)
  let kept := formed.filter (fun k => !Marker.passedOut s.tun.bBehind drum k)
  let s := { s with mlc := { s.mlc with markers := kept } }
  reformWindow (gone.foldl recordPassedOut s)

/-! ### The steps of the loop cycle (R56) -/

/-- Step 1: the three sensors are sampled (R57). -/
def sampleSensors (side : Side) (plate leg slope : Nat) (s : State) : State :=
  let c := s.ch side
  { s.setCh side { c with
      plate := scaleSensor (s.plateCal side) (-3000) 5000 plate
      leg := scaleSensor (s.legCal side) 0 65535 leg
      slope := scaleSensor s.cal.slope (-1000) 1000 slope
      rawPlate := plate
      rawLeg := leg } with slopeRaw := slope }

/-- Step 2, first part: d_meas (R58, R59). -/
def fuseSources (side : Side) (s : State) : State :=
  s.setCh side { s.ch side with dMeas := s.fused side }

/-- RETURNING as step 2 leaves it, by the lift state read and the one read at the previous cycle (R66). -/
def returningAfter (lifted : Bool) (c : Channel) : Bool :=
  if lifted then false else if c.lastLifted then true else c.returning

/-- The control in use (R60). -/
def controlInUse (mode : SideMode) (lifted returning : Bool) : Control :=
  if mode = .depth || lifted || returning then .depth else .slope

/-- Step 2, last part: the loss and the regaining of a source in AUTO and HELD (R49). -/
def applySource (side : Side) (valid : Bool) (s : State) : State :=
  let c := s.ch side
  match c.state, valid with
  | .auto, false =>
    setFlag (srcLossFlagOf side)
      (formPermit (changeChannel side { c with state := .held, holdSource := true, holdLink := false, valve := 0 } s))
  | .held, false =>
    if c.holdSource then setFlag (srcLossFlagOf side) s
    else setFlag (srcLossFlagOf side) (formPermit (changeChannel side { c with holdSource := true } s))
  | .held, true =>
    if c.holdSource then
      formPermit (changeChannel side
        { c with holdSource := false, state := if c.holdLink then .held else .auto } s)
    else s
  | _, _ => s

/-- A goal with the value before its clamp (R64) and the held goal after the step. -/
structure GoalStep where
  goal  : Option Int
  raw   : Int
  held  : Int
deriving DecidableEq, Repr

/-- A cut goal clamped to 0 to Dmax (R64). -/
def cutGoal (e : Envelope) (raw : Int) : Int := clamp raw 0 e.dmax

/-- Step 3: the goal (R61 to R64, R66). `raw` is the goal itself for a goal that is not clamped. -/
def goalStep (side : Side) (drum : Int) (lifted returning : Bool) (s : State) : GoalStep :=
  let c := s.ch side
  let cut (raw : Int) : GoalStep := ⟨some (cutGoal s.env raw), raw, c.heldGoal⟩
  if lifted then ⟨some (-s.env.hLift), -s.env.hLift, c.heldGoal⟩
  else if c.mode = .slope then
    if returning then cut (s.mlc.returnDepth.getD (c.depthSet + c.trim)) else ⟨none, 0, c.heldGoal⟩
  else
    match s.target with
    | .set => cut (c.depthSet + c.trim)
    | .plan =>
      match (s.lookup drum).depth side with
      | some d => { cut (d + c.trim) with held := cutGoal s.env (d + c.trim) }
      | none => cut c.heldGoal

/-- The clamp of a cut goal took effect (R64). -/
def GoalStep.clamped (g : GoalStep) (lifted : Bool) : Bool :=
  match g.goal with
  | some x => !lifted && x ≠ g.raw
  | none => false

/-- d_cmd after step 4 (R65). -/
def rampStep (e : Envelope) (goal : Option Int) (cmd : Int) : Int :=
  match goal with
  | some g => ramp e cmd g
  | none => cmd

/-- Steps 3 and 4: the goal, its flag, the ramp and the end of RETURNING (R61 to R66). -/
def goalAndRamp (side : Side) (drum : Int) (lifted returning : Bool) (s : State) : State :=
  let g := goalStep side drum lifted returning s
  let s := setFlagIf (g.clamped lifted) (clampFlagOf side) s
  let c := s.ch side
  let cmd := rampStep s.env g.goal c.dCmd
  s.setCh side { c with
    goal := g.goal
    heldGoal := g.held
    dCmd := cmd
    returning := returning && g.goal ≠ some cmd }

/-- Step 5: a side in slope control keeps d_cmd on its measured depth (R68). -/
def trackSlope (side : Side) (s : State) : State :=
  let c := s.ch side
  if s.depthValid side then s.setCh side { c with dCmd := clamp c.dMeas (-s.env.hLift) s.env.dmax } else s

/-- The error of steps 5 and 6 (R67, R69). -/
def State.cycleError (s : State) (side : Side) : Control → Option Int
  | .depth => some ((s.ch side).dCmd - (s.ch side).dMeas)
  | .slope => s.slopeError side

/-- Step 7: the valve command of an error in AUTO, with the SAT flag (R70). -/
def driveValve (side : Side) (e : Option Int) (s : State) : State :=
  let r := match e with
    | some x => valveOf (s.chTun side) s.env.vmax x
    | none => (0, false)
  let s := setFlagIf r.2 (satFlagOf side) s
  s.setCh side { s.ch side with valve := r.1 }

/-- Step 8: the on-grade counter, with the GRADE report of a change of ON_GRADE (R71, R72). -/
def keepGrade (side : Side) (onGrade : Bool) (s : State) : State :=
  let c := s.ch side
  changeChannel side { c with grade := if onGrade then min (c.grade + 1) 10 else 0 } s

/-- The cycle counts as on grade (R71). -/
def onGradeCycle (tol : Int) (lifted : Bool) (c : Channel) (e : Option Int) : Bool :=
  match e with
  | some x => decide (c.state = .auto) && !lifted && !c.returning && decide (|x| ≤ tol)
  | none => false

/-- Steps 2 (lift state, control, validity) to 8 of a channel that was in AUTO or HELD (R56, R60). -/
def activeCycle (side : Side) (drum : Int) (s : State) : State :=
  let c := s.ch side
  let lifted := s.lifted
  let returning := returningAfter lifted c
  let control := controlInUse c.mode lifted returning
  let valid := s.controlValid side control
  let s := s.setCh side { c with returning := returning, lastLifted := lifted, sourceValid := valid }
  let s := applySource side valid s
  let s := goalAndRamp side drum lifted returning s
  let s := if control = .slope then trackSlope side s else s
  let e := s.cycleError side control
  let s := if (s.ch side).state = .auto then driveValve side e s else s
  keepGrade side (onGradeCycle (s.chTun side).tol lifted (s.ch side) e) s

/-- Steps 2 and 8 of a channel in OFF or JOG (R56). -/
def restingCycle (side : Side) (s : State) : State :=
  let valid := s.controlValid side (s.controlIfEngaged side)
  keepGrade side false (s.setCh side { s.ch side with sourceValid := valid })

/-- The loop cycle of a channel (R56, R79). -/
def loopCycle (side : Side) (plate leg slope : Nat) (s : State) : State :=
  let drum := s.drum
  let s := if side = .L then evaluateMarkers drum s else s
  let s := fuseSources side (sampleSensors side plate leg slope s)
  match (s.ch side).state with
  | .off => restingCycle side s
  | .jog => restingCycle side s
  | .auto => activeCycle side drum s
  | .held => activeCycle side drum s

/-! ### Channel requests and the jog -/

/-- The jog time of a channel in JOG runs out (R48). -/
def jogExpiry (side : Side) (s : State) : State :=
  if (s.ch side).state = .jog then formPermit (enterOff side s) else s

/-- A channel has a valid source for the control it would use in AUTO (R45). -/
def State.engageable (s : State) (side : Side) : Bool := s.controlValid side (s.controlIfEngaged side)

/-- ENGAGE acts on one named channel (R45). -/
def engageOne (s : State) (side : Side) : State :=
  let c := s.ch side
  match c.state with
  | .off =>
    let cmd := clamp c.dMeas (-s.env.hLift) s.env.dmax
    changeChannel side
      { c with state := .auto, dCmd := cmd, heldGoal := cmd, grade := 0, returning := false, lastLifted := false } s
  | .held => changeChannel side { c with state := .auto, holdSource := false, holdLink := false } s
  | .auto => s
  | .jog => s

/-- The items ENGAGE needs are set (R45). -/
def State.canEngage (s : State) : Bool := s.geo.w.isSome && s.geo.dd.isSome && s.geo.ppm.isSome

/-- ENGAGE (R45). -/
def serveEngage (side : Nat) (s : State) : State × Answer :=
  match sidesOf side with
  | none => refuse .range s
  | some sides =>
    if s.eStop then refuse .estop s
    else if !s.canEngage then refuse .notCommissioned s
    else if sides.any (fun x => (s.ch x).state = .jog) then refuse .state s
    else if sides.any (fun x => ((s.ch x).state = .off || (s.ch x).state = .held) && !s.engageable x) then
      refuse .noSource s
    else accept [] (formPermit (sides.foldl engageOne s))

/-- DISENGAGE (R46). -/
def serveDisengage (side : Nat) (s : State) : State × Answer :=
  match sidesOf side with
  | none => refuse .range s
  | some sides => accept [] (formPermit (sides.foldl (fun t x => enterOff x t) s))

/-- JOG (R47). -/
def serveJog (side : Nat) (valve : Int) (duration : Nat) (s : State) : State × Answer :=
  match sideOf side with
  | none => refuse .range s
  | some x =>
    if duration < 10 ∨ 1000 < duration then refuse .range s
    else if s.eStop then refuse .estop s
    else if (s.ch x).state = .auto ∨ (s.ch x).state = .held then refuse .state s
    else
      let v := clamp valve (-s.env.vmax) s.env.vmax
      let c := { s.ch x with state := .jog, jogValue := v, jogLeft := duration, valve := v }
      acceptClamped (v ≠ valve) (formPermit (changeChannel x c s))

/-- The effect of SELECT_TARGET (R53): PLAN makes both sides DEPTH, then MLC re-forms the cause PLAN (R85). -/
def selectTarget (target : Target) (s : State) : State :=
  let s := match target with
    | .plan => { s with chL := { s.chL with mode := .depth }, chR := { s.chR with mode := .depth }, target := .plan }
    | .set => { s with target := .set }
  formPermit (reformPlan s)

/-- SELECT_TARGET (R53). -/
def serveSelectTarget (source : Nat) (s : State) : State × Answer :=
  match targetOf source with
  | none => refuse .range s
  | some target => accept [] (selectTarget target s)

/-- SET_POINT (R54). -/
def serveSetPoint (side mode : Nat) (depth slope : Int) (s : State) : State × Answer :=
  match sideOf side, modeOf mode with
  | some x, some m =>
    if !within 0 3500 depth then refuse .range s
    else if m = .slope ∧ ¬(s.target = .set ∧ (s.ch x.other).mode = .depth) then refuse .state s
    else
      let v := clamp slope (-s.env.smax) s.env.smax
      acceptClamped (v ≠ slope) (s.setCh x { s.ch x with mode := m, depthSet := depth, slopeSet := v })
  | _, _ => refuse .range s

/-- SET_TRIM (R55). -/
def serveSetTrim (side : Nat) (trim : Int) (s : State) : State × Answer :=
  match sideOf side with
  | none => refuse .range s
  | some x =>
    let v := clamp trim (-s.env.trimLimit) s.env.trimLimit
    acceptClamped (v ≠ trim) (s.setCh x { s.ch x with trim := v })

/-- LOOP_CYCLE (R56). -/
def execLoopCycle (side : Side) (plate leg slope : Nat) (s : State) : Host.Outcome State Fault Refusal :=
  .next (startTx (loopCycle side plate leg slope s))

/-- JOG_EXPIRY (R48). -/
def execJogExpiry (side : Side) (s : State) : Host.Outcome State Fault Refusal := .next (startTx (jogExpiry side s))

end Sys2Proof.Machine
end

