-- ==== Sys2Proof/Machine/Loading.lean ====
section
/-! DEFINITION. The Volume Meter and the Belt Tracker (chapter 8): volume steps, belt steps and the discharge pass, and what
TQS does when a truck becomes FULL (R170). -/

namespace Sys2Proof.Machine

/-! ### Metering (R142 to R144, R147, R148) -/

/-- The volume of the newest parcel increased (R147). -/
def addToNewest (p : Nat) : List Parcel → List Parcel
  | [] => []
  | [q] => [{ q with vol := q.vol + p }]
  | q :: rest => q :: addToNewest p rest

/-- A new parcel is placed on the belt (R147): the list, and whether it was merged into a full one. -/
def placeParcel (p : Nat) (ps : List Parcel) : List Parcel × Bool :=
  match ps.getLast? with
  | none => ([⟨p, 0⟩], false)
  | some q =>
    if q.pos < 50 then (addToNewest p ps, false)
    else if 32 ≤ ps.length then (addToNewest p ps, true)
    else (ps ++ [⟨p, 0⟩], false)

/-- B is above Hc (R148). -/
def State.beltOver (s : State) : Bool :=
  match s.hc with
  | some hc => decide (hc < (s.beltContent : Int))
  | none => false

/-- BLT takes a new parcel: placement, MERGE, BELT_OVER, and the list change handed to TQS (R147, R148, R153). -/
def newParcel (p : Nat) (s : State) : State :=
  let r := placeParcel p s.load.parcels
  let s := { s with load := { s.load with parcels := r.1 } }
  let s := setFlagIf r.2 .merge s
  let s := setFlagIf s.beltOver .beltOver s
  handListChange s

/-- The step meters nothing: the last belt parcel volume becomes 0 (R142, R144). -/
def meterNothing (s : State) : State := { s with load := { s.load with lastParcel := 0 } }

/-- The metered volume goes to the belt (R143). -/
def State.toBelt (s : State) : Bool :=
  (s.lookup s.drum).disposition.loads && s.geo.lb.isSome && s.geo.cb.isSome

/-- A metered volume above 0 is counted and routed (R142, R143). -/
def routeVolume (p : Nat) (s : State) : State :=
  if s.toBelt then newParcel p { s with load := { s.load with vc := s.load.vc + p, lastParcel := p } }
  else { s with load := { s.load with vc := s.load.vc + p, vw := s.load.vw + p, lastParcel := 0 } }

/-- A volume step (R142 to R144); one that was issued is no longer due (log entry 5). -/
def volumeStep (s : State) : State :=
  let s := { s with trc := { s.trc with volumeDue := s.trc.volumeDue - 1 } }
  match s.geo.w with
  | none => meterNothing s
  | some w =>
    let p := parcelVolume s.chL.dMeas s.chR.dMeas w s.tun.swell
    if p = 0 ∨ Config.counterMax < s.load.vc + p then meterNothing s else routeVolume p s

/-! ### Discharge (R149 to R152, R170) -/

/-- The parcels advanced by 10 mm, to Lb at most; those at Lb stay there (R149). -/
def advanceParcels (lb : Nat) (ps : List Parcel) : List Parcel :=
  ps.map (fun q => { q with pos := if lb ≤ q.pos + 10 then lb else q.pos + 10 })

/-- An amount is discharged into the head truck (R150). -/
def deliver (amount : Nat) (s : State) : State :=
  let s := setHead (fun t => { t with fill := t.fill + amount }) s
  { s with load := { s.load with vd := s.load.vd + amount } }

/-- A truck has become FULL: recorded, counted, TRUCK_FULL queued, a running conveyor enters HOLD (R151, R170). -/
def headFull (s : State) : State :=
  let s := setHead (fun t => { t with state := .full }) s
  let s := match s.head with
    | some t => { s with tqs := { s.tqs with
        lastFull := some ⟨t.id, t.target, t.fill⟩
        fullCount := wrapInc s.tqs.fullCount } }
    | none => s
  let s := queueReport .truckFull s
  if s.tqs.conveyor = .running ∨ s.tqs.conveyor = .topping then enterConveyor .hold 0 s else s

/-- A parcel spills (R152). -/
def spillParcel (q : Parcel) (s : State) : State :=
  setFlag .spill { s with load := { s.load with vs := s.load.vs + q.vol } }

/-- The discharge pass over the parcels, oldest first (R150 to R152): the parcels left, and the state. -/
def dischargePass (lb : Nat) : List Parcel → State → List Parcel × State
  | [], s => ([], s)
  | q :: rest, s =>
    if q.pos < lb then (q :: rest, s)
    else
      match s.head with
      | none => dischargePass lb rest (spillParcel q s)
      | some t =>
        if t.takes then
          if q.vol < t.need then dischargePass lb rest (deliver q.vol s)
          else if q.vol = t.need then (rest, headFull (deliver q.vol s))
          else ({ q with vol := q.vol - t.need } :: rest, headFull (deliver t.need s))
        else dischargePass lb rest (spillParcel q s)

/-- A belt step on a list that is not empty, with belt length `lb` (R149, R153). -/
def runBeltStep (lb : Nat) (s : State) : State :=
  let r := dischargePass lb (advanceParcels lb s.load.parcels) s
  let s := r.2
  handListChange { s with load := { s.load with parcels := r.1 } }

/-- A belt step (R149); one that was issued is no longer due (log entry 5). On an empty list nothing changes. -/
def beltStep (s : State) : State :=
  let s := { s with trc := { s.trc with beltDue := s.trc.beltDue - 1 } }
  if s.load.parcels = [] then s
  else
    match s.geo.lb with
    | none => s
    | some lb => runBeltStep lb.toNat s

/-! ### Requests -/

/-- The effect of COUNTERS_RESET (R145). -/
def resetCounters (s : State) : State :=
  { s with load := { s.load with vc := s.beltContent, vd := 0, vw := 0, vs := 0, vx := 0 } }

/-- COUNTERS_RESET (R145). -/
def serveCountersReset (s : State) : State × Answer :=
  let t := resetCounters s
  accept (fVolumes t) t

/-- GET_LOADING (R156). -/
def serveGetLoading (first count : Nat) (s : State) : State × Answer :=
  if 31 < first ∨ count < 1 ∨ 8 < count then refuse .range s
  else accept (loadingValues first count s) s

/-- VOLUME_STEP (R142). -/
def execVolumeStep (s : State) : Host.Outcome State Fault Refusal := .next (startTx (volumeStep s))

/-- BELT_STEP (R149). -/
def execBeltStep (s : State) : Host.Outcome State Fault Refusal := .next (startTx (beltStep s))

end Sys2Proof.Machine
end

