-- ==== Sys2Proof/Machine/Markers.lean ====
section
/-! DEFINITION. Marker and lift requests (chapter 4). -/

namespace Sys2Proof.Machine

/-- ADD_MARKER (R78). -/
def serveAddMarker (m : Int) (lead trail : Nat) (s : State) : State × Answer :=
  if !(chainageOk m && decide (lead ≤ 20000) && decide (trail ≤ 20000)) then refuse .range s
  else if s.mlc.markers.any (fun k => k.m = m) then refuse .duplicate s
  else if 16 ≤ s.mlc.markers.length then refuse .full s
  else
    let (t, k) := insertNewMarker m lead trail .machine s
    accept (f8 k.id ++ f8 k.state.code) (recordEvent .added k (reformWindow t))

/-- REMOVE_MARKER (R81); WINDOW is not changed by it (log entry 21). -/
def serveRemoveMarker (id : Nat) (s : State) : State × Answer :=
  if id < 1 ∨ 255 < id then refuse .range s
  else
    match s.mlc.markers.find? (fun k => k.id = id) with
    | none => refuse .notFound s
    | some k =>
      if k.state = .active then refuse .state s
      else
        let t := { s with mlc := { s.mlc with markers := s.mlc.markers.filter (fun x => x.id ≠ id) } }
        accept [] (recordEvent .removed k t)

/-- GET_MARKERS (R82). -/
def serveGetMarkers (first count : Nat) (s : State) : State × Answer :=
  if 15 < first ∨ count < 1 ∨ 8 < count then refuse .range s
  else accept (markersValues first count s) s

/-- LIFT (R87). -/
def serveLift (s : State) : State × Answer :=
  if s.anyAuto then accept [] (setCauses { s.mlc.causes with manual := true } s) else refuse .state s

/-- RETURN (R88). -/
def serveReturn (s : State) : State × Answer :=
  if !s.anyAuto then refuse .state s
  else if !s.mlc.causes.manual then refuse .state s
  else accept [] (dropManual s)

end Sys2Proof.Machine
end

