-- ==== Sys2Proof/Machine/Detector.lean ====
section
/-! DEFINITION. The Change Detector (chapter 6): the hand-over of a new-ground line, TAKE_REFERENCE, a write of the reference
mode. -/

namespace Sys2Proof.Machine

/-- CHD returned to QUIET with its counts and run start cleared (R118, R123). -/
def Chd.toQuiet (d : Chd) : Chd := { d with det := .quiet, n := 0, quiet := 0, runStart := none }

/-- The held reference dropped in ROLLING and STEPPED, kept in HELD (R118, R123). -/
def Chd.dropReference (d : Chd) : Chd :=
  match d.mode with
  | .rolling => { d with held := none, stepCount := 0 }
  | .stepped => { d with held := none, stepCount := 0 }
  | .held => d

/-- Suspension causes at a hand-over: CONDITION, GEOMETRY (R123). -/
def State.suspendCondition (s : State) : Bool := s.spr.fouled || s.spr.lowReturn
def State.suspendGeometry (s : State) : Bool :=
  match s.geo.dd, s.geo.ds with
  | some dd, some ds => decide (ds ≤ dd)
  | some _, none => false
  | none, _ => true

/-- A suspended hand-over (R123). -/
def suspendHandOver (s : State) : State :=
  let d := s.chd.toQuiet.dropReference
  { s with chd := { d with
      history := []
      lastAt := none
      condition := s.suspendCondition
      geometry := s.suspendGeometry } }

/-- The line follows on from the last entered chainage (R118). -/
def followsOn (last : Option Int) (pitch at' : Int) : Bool :=
  match last with
  | none => true
  | some e => decide (e < at') && decide (at' ≤ e + 8 * pitch)

/-- Step 2: a line that does not follow on restarts the history (R118). -/
def checkContinuity (at' : Int) (s : State) : State :=
  if followsOn s.chd.lastAt s.tun.scanPitch at' then s
  else { s with chd := { s.chd.toQuiet.dropReference with history := [] } }

/-- Step 3: the reference for a line, absent when there is none (R119 to R121). -/
def State.reference (s : State) : Option (List (Option Nat)) :=
  match s.chd.mode with
  | .rolling => s.chd.history[s.tun.k.toNat - 1]?.map (·.sigs)
  | .stepped => s.chd.held.map (·.sigs)
  | .held => s.chd.held.map (·.sigs)

/-- Step 4: the standing-out marks of a line, none when its segment has DETECT no (R124, R125). -/
def State.evaluateLine (s : State) (at' : Int) (points : List Point) : List Bool :=
  if (s.lookup at').detect then standingMarks s.tun s.chd.mask s.reference points
  else List.replicate 16 false

/-- The line detects: its standing-out cells reach Nc (R126). A line with DETECT no has no marks; Nc is at least 1. -/
def lineDetects (t : Tuning) (detect : Bool) (marks : List Bool) : Bool :=
  detect && decide (t.nc ≤ ((marks.filter id).length : Int))

/-- A trip: the counts move and MLC takes the run start (R128). -/
def tripDetector (start : Int) (s : State) : State :=
  takeTrip start { s with chd := { s.chd with
    det := .tripped
    quiet := 0
    trips := satInc Config.count16Max s.chd.trips
    lastTrip := some start } }

/-- Step 5 for a detecting line (R127). -/
def moveDetecting (at' : Int) (s : State) : State :=
  match s.chd.det with
  | .quiet =>
    let t := { s with chd := { s.chd with det := .counting, n := 1, runStart := some at' } }
    if s.tun.nt ≤ 1 then tripDetector at' t else t
  | .counting =>
    let t := { s with chd := { s.chd with n := s.chd.n + 1 } }
    if s.tun.nt ≤ ((s.chd.n + 1 : Nat) : Int) then tripDetector (s.chd.runStart.getD at') t else t
  | .tripped => { s with chd := { s.chd with quiet := 0 } }

/-- Step 5 for a non-detecting line (R127). -/
def moveNonDetecting (s : State) : State :=
  match s.chd.det with
  | .quiet => s
  | .counting => { s with chd := s.chd.toQuiet }
  | .tripped =>
    if s.tun.nt ≤ ((s.chd.quiet + 1 : Nat) : Int) then { s with chd := s.chd.toQuiet }
    else { s with chd := { s.chd with quiet := s.chd.quiet + 1 } }

/-- Step 6: the line enters the history, and in STEPPED counts toward the refresh (R117, R120). -/
def enterLine (l : Line) (sigs : List (Option Nat)) (s : State) : State :=
  let d := { s.chd with history := (HistEntry.mk sigs l.scanAt :: s.chd.history).take 32, lastAt := some l.scanAt }
  let d := match d.mode with
    | .stepped =>
      if s.tun.k ≤ ((d.stepCount + 1 : Nat) : Int) then { d with held := some ⟨sigs, l.number, l.scanAt⟩, stepCount := 0 }
      else { d with stepCount := d.stepCount + 1 }
    | .rolling => d
    | .held => d
  { s with chd := d }

/-- The hand-over of a new-ground line (R116): the state after it, and the line's standing-out marks. -/
def handOver (l : Line) (sigs : List (Option Nat)) (s : State) : State × List Bool :=
  if s.suspendCondition || s.suspendGeometry then (suspendHandOver s, List.replicate 16 false)
  else
    let s := { s with chd := { s.chd with condition := false, geometry := false } }
    let s := checkContinuity l.scanAt s
    let marks := s.evaluateLine l.scanAt l.points
    let detects := lineDetects s.tun (s.lookup l.scanAt).detect marks
    let s := if detects then moveDetecting l.scanAt s else moveNonDetecting s
    (enterLine l sigs s, marks)

/-- TAKE_REFERENCE (R121). -/
def serveTakeReference (s : State) : State × Answer :=
  if s.tun.refMode = .rolling then refuse .state s
  else
    match s.spr.latest with
    | none => refuse .state s
    | some r =>
      let d := { s.chd with held := some ⟨r.cells.map (·.signature), r.number, r.scanAt⟩ }
      let d := if s.tun.refMode = .stepped then { d with stepCount := 0 } else d
      accept (f8 r.number ++ fChainage r.scanAt ++ f8 r.mark.code) { s with chd := d }

/-- CHD when the scanner is switched off (R98, R131): mask set, trips and the mode in use are kept. -/
def Chd.scannerOff (d : Chd) : Chd :=
  { d.toQuiet with history := [], lastAt := none, held := none, stepCount := 0, condition := false, geometry := false }

/-- A write of the reference mode that changes it (R122). -/
def Chd.changeMode (d : Chd) (m : RefMode) : Chd := { d with mode := m, held := none, stepCount := 0 }

end Sys2Proof.Machine
end

