-- ==== Sys2Proof/Machine/Parameters.lean ====
section
/-! DEFINITION. Machine Parameters (chapter 10): the parameter table, writes with what their owners do, the envelope lock,
calibration and reading. -/

namespace Sys2Proof.Machine

/-! ### The parameter table (section 10.1) -/

/-- A row of the parameter table. -/
structure ParamRow where
  id  : Nat
  cls : ItemClass
  /-- The value lies within the item's range. -/
  ok  : Int → Bool
  /-- The value MPR holds, absent when unset. -/
  get : Params → Option Int
  /-- The value written. -/
  put : Int → Params → Params

/-- A geometry row. -/
def geoRow (id : Nat) (lo hi : Int) (get : Geometry → Option Int) (put : Int → Geometry → Geometry) : ParamRow :=
  ⟨id, .geometry, within lo hi, fun p => get p.geo, fun v p => { p with geo := put v p.geo }⟩

/-- An envelope row. -/
def envRow (id : Nat) (lo hi : Int) (get : Envelope → Int) (put : Int → Envelope → Envelope) : ParamRow :=
  ⟨id, .envelope, within lo hi, fun p => some (get p.env), fun v p => { p with env := put v p.env }⟩

/-- A tuning row with any range test. -/
def tunRowOk (id : Nat) (ok : Int → Bool) (get : Tuning → Int) (put : Int → Tuning → Tuning) : ParamRow :=
  ⟨id, .tuning, ok, fun p => some (get p.tun), fun v p => { p with tun := put v p.tun }⟩

/-- A tuning row. -/
def tunRow (id : Nat) (lo hi : Int) (get : Tuning → Int) (put : Int → Tuning → Tuning) : ParamRow :=
  tunRowOk id (within lo hi) get put

/-- The two rows of a per-channel item: left id, then right id. -/
def chanRows (idL idR : Nat) (lo hi : Int) (get : ChannelTuning → Int) (put : Int → ChannelTuning → ChannelTuning) :
    List ParamRow :=
  [⟨idL, .tuning, within lo hi, fun p => some (get p.tunL), fun v p => { p with tunL := put v p.tunL }⟩,
   ⟨idR, .tuning, within lo hi, fun p => some (get p.tunR), fun v p => { p with tunR := put v p.tunR }⟩]

/-- The two rows of a sensor: zero, then span. -/
def sensorRows (id : Nat) (get : Calibration → SensorCal) (put : SensorCal → Calibration → Calibration) : List ParamRow :=
  [⟨id, .calibration, within (-100000) 100000, fun p => some (get p.cal).zero,
      fun v p => { p with cal := put { get p.cal with zero := v } p.cal }⟩,
   ⟨id + 1, .calibration, within 1 60000, fun p => some (get p.cal).span,
      fun v p => { p with cal := put { get p.cal with span := v } p.cal }⟩]

/-- A drum calibration offset row. -/
def offsetRow (id : Nat) (get : Calibration → Int) (put : Int → Calibration → Calibration) : ParamRow :=
  ⟨id, .calibration, within (-10000) 10000, fun p => some (get p.cal), fun v p => { p with cal := put v p.cal }⟩

/-- Filter periods, in µs. -/
def filterOk (v : Int) : Bool := [1, 2, 4, 8, 16, 32, 64, 128].contains v

/-- A ski cell item travels as first × 256 + last (section 11.8). -/
def cellRangeCode (r : CellRange) : Int := (r.first * 256 + r.last : Nat)
def cellRangeOf (v : Int) : CellRange := ⟨v.toNat / 256, v.toNat % 256⟩

/-- A ski cell value: cells 0 to 15, first at or below last, at most 8 cells (section 5.1). -/
def cellRangeOk (v : Int) : Bool :=
  let r := cellRangeOf v
  decide (0 ≤ v) && decide (r.first ≤ r.last) && decide (r.last ≤ 15) && decide (r.last < r.first + 8)

def defaultOf (v : Int) : DefaultDisposition := if v = 0 then .hold else .travel
def refModeOf (v : Int) : RefMode := if v = 0 then .rolling else if v = 1 then .stepped else .held

def geometryRows : List ParamRow :=
  [geoRow 1 1000 4400 (·.w) (fun v g => { g with w := some v }),
   geoRow 2 (-20000) 40000 (·.dd) (fun v g => { g with dd := some v }),
   geoRow 3 (-20000) 60000 (·.ds) (fun v g => { g with ds := some v }),
   geoRow 4 2000 30000 (·.lb) (fun v g => { g with lb := some v }),
   geoRow 5 1000 100000 (·.cb) (fun v g => { g with cb := some v }),
   geoRow 6 100 20000 (·.ppm) (fun v g => { g with ppm := some v }),
   geoRow 7 100 20000 (·.bppm) (fun v g => { g with bppm := some v })]

def envelopeRows : List ParamRow :=
  [envRow 16 0 3500 (·.dmax) (fun v e => { e with dmax := v }),
   envRow 17 100 2000 (·.hLift) (fun v e => { e with hLift := v }),
   envRow 18 1 50 (·.ru) (fun v e => { e with ru := v }),
   envRow 19 1 20 (·.rd) (fun v e => { e with rd := v }),
   envRow 20 100 1000 (·.vmax) (fun v e => { e with vmax := v }),
   envRow 21 0 1000 (·.smax) (fun v e => { e with smax := v }),
   envRow 22 0 500 (·.trimLimit) (fun v e => { e with trimLimit := v }),
   envRow 23 1000 7000 (·.vbMax) (fun v e => { e with vbMax := v }),
   envRow 24 1000 40000 (·.truckMax) (fun v e => { e with truckMax := v })]

def travelPlanRows : List ParamRow :=
  [tunRowOk 32 filterOk (·.travelFilter) (fun v t => { t with travelFilter := v }),
   tunRowOk 33 filterOk (·.beltFilter) (fun v t => { t with beltFilter := v }),
   tunRow 34 20 1000 (·.scanPitch) (fun v t => { t with scanPitch := v }),
   tunRow 35 0 1 (fun t => t.defaultDisp.code) (fun v t => { t with defaultDisp := defaultOf v }),
   tunRow 36 0 100000 (·.bAhead) (fun v t => { t with bAhead := v }),
   tunRow 37 0 20000 (·.bBehind) (fun v t => { t with bBehind := v }),
   tunRow 38 0 20000 (·.autoLead) (fun v t => { t with autoLead := v }),
   tunRow 39 0 20000 (·.autoTrail) (fun v t => { t with autoTrail := v })]

def scannerRows : List ParamRow :=
  [tunRow 40 0 255 (·.pointMin) (fun v t => { t with pointMin := v }),
   tunRowOk 41 cellRangeOk (fun t => cellRangeCode t.skiCellsL) (fun v t => { t with skiCellsL := cellRangeOf v }),
   tunRowOk 42 cellRangeOk (fun t => cellRangeCode t.skiCellsR) (fun v t => { t with skiCellsR := cellRangeOf v }),
   tunRowOk 43 (fun v => [60, 70, 80, 90].contains v) (·.fPercent) (fun v t => { t with fPercent := v }),
   tunRow 44 1 100 (·.tf) (fun v t => { t with tf := v }),
   tunRow 45 500 20000 (·.nearLimit) (fun v t => { t with nearLimit := v }),
   tunRow 46 1 16 (·.nf) (fun v t => { t with nf := v }),
   tunRow 47 0 255 (·.lineMin) (fun v t => { t with lineMin := v }),
   tunRow 48 1 16 (·.nl) (fun v t => { t with nl := v }),
   tunRow 49 0 2 (fun t => t.refMode.code) (fun v t => { t with refMode := refModeOf v }),
   tunRow 50 1 32 (·.k) (fun v t => { t with k := v }),
   tunRow 51 10 500 (·.t) (fun v t => { t with t := v }),
   tunRow 52 1 4 (·.ns) (fun v t => { t with ns := v }),
   tunRow 53 1 16 (·.nc) (fun v t => { t with nc := v }),
   tunRow 54 1 8 (·.nt) (fun v t => { t with nt := v })]

/-- 0 for off, or a time within bounds. -/
def zeroOr (lo hi v : Int) : Bool := decide (v = 0) || within lo hi v

def loadingLinkRows : List ParamRow :=
  [tunRow 55 100 160 (·.swell) (fun v t => { t with swell := v }),
   tunRow 56 300 2000 (·.vbMin) (fun v t => { t with vbMin := v }),
   tunRow 57 200 3000 (·.lt) (fun v t => { t with lt := v }),
   tunRow 58 500 3000 (·.lp) (fun v t => { t with lp := v }),
   tunRowOk 59 (zeroOr 200 5000) (·.silenceTimeout) (fun v t => { t with silenceTimeout := v }),
   tunRowOk 60 (zeroOr 100 5000) (·.telemetryPeriod) (fun v t => { t with telemetryPeriod := v })]

def channelRows : List ParamRow :=
  chanRows 64 72 1 255 (·.kp) (fun v t => { t with kp := v }) ++
  chanRows 65 73 0 50 (·.db) (fun v t => { t with db := v }) ++
  chanRows 66 74 0 300 (·.vmin) (fun v t => { t with vmin := v }) ++
  chanRows 67 75 1 100 (·.tol) (fun v t => { t with tol := v }) ++
  chanRows 68 76 0 15 (·.wSP) (fun v t => { t with wSP := v }) ++
  chanRows 69 77 0 15 (·.wSK) (fun v t => { t with wSK := v })

def calibrationRows : List ParamRow :=
  sensorRows 80 (·.plateL) (fun k c => { c with plateL := k }) ++
  sensorRows 82 (·.plateR) (fun k c => { c with plateR := k }) ++
  sensorRows 84 (·.legL) (fun k c => { c with legL := k }) ++
  sensorRows 86 (·.legR) (fun k c => { c with legR := k }) ++
  sensorRows 88 (·.slope) (fun k c => { c with slope := k }) ++
  [offsetRow 90 (·.offsetL) (fun v c => { c with offsetL := v }),
   offsetRow 91 (·.offsetR) (fun v c => { c with offsetR := v })]

/-- The parameter table (section 10.1). -/
def paramTable : List ParamRow :=
  geometryRows ++ envelopeRows ++ travelPlanRows ++ scannerRows ++ loadingLinkRows ++ channelRows ++ calibrationRows

/-- The row an id names (R179). -/
def findParam (id : Nat) : Option ParamRow := paramTable.find? (fun r => r.id = id)

/-! ### What the owners do at a write (R181, R182, R186) -/

/-- The depths clamped into −H_lift to Dmax by a write of Dmax or H_lift (R65, R182). -/
def Channel.clampDepths (e : Envelope) (c : Channel) : Channel :=
  { c with
    dCmd := if c.state = .held then clamp c.dCmd (-e.hLift) e.dmax else c.dCmd
    heldGoal := clamp c.heldGoal (-e.hLift) e.dmax }

/-- A write of Dmax or H_lift (R182). -/
def clampDepths (s : State) : State :=
  { s with
    chL := s.chL.clampDepths s.env
    chR := s.chR.clampDepths s.env
    mlc := { s.mlc with returnDepth := s.mlc.returnDepth.map (fun d => clamp d (-s.env.hLift) s.env.dmax) } }

/-- A write of Smax (R182). -/
def clampSlopes (s : State) : State :=
  { s with
    chL := { s.chL with slopeSet := clamp s.chL.slopeSet (-s.env.smax) s.env.smax }
    chR := { s.chR with slopeSet := clamp s.chR.slopeSet (-s.env.smax) s.env.smax } }

/-- A write of the trim limit (R182). -/
def clampTrims (s : State) : State :=
  { s with
    chL := { s.chL with trim := clamp s.chL.trim (-s.env.trimLimit) s.env.trimLimit }
    chR := { s.chR with trim := clamp s.chR.trim (-s.env.trimLimit) s.env.trimLimit } }

/-- A first write of Lb or C_b: the write that completes the pair forms the permit again (R181). -/
def pairComplete (s : State) : State :=
  if s.geo.lb.isSome ∧ s.geo.cb.isSome then formPermit s else s

/-- A write of the reference mode; one that does not change it changes nothing (R122). -/
def writeRefMode (s : State) : State :=
  if s.tun.refMode = s.chd.mode then s else { s with chd := s.chd.changeMode s.tun.refMode }

/-- A write of Lt: the topping test in RUNNING (R169), and the permit when the conveyor changes (R175). -/
def writeLt (s : State) : State :=
  let t := toppingTest s
  if t.tqs.conveyor = s.tqs.conveyor then t else formPermit t

/-- The owner's act at an accepted write of an item, the value already written (R181, R182, R186). -/
def ownerAct (id : Nat) (s : State) : State :=
  match id with
  | 2 => reformDisposition s
  | 4 => pairComplete s
  | 5 => pairComplete s
  | 16 => clampDepths s
  | 17 => clampDepths s
  | 21 => clampSlopes s
  | 22 => clampTrims s
  | 35 => reformDisposition s
  | 49 => writeRefMode s
  | 57 => writeLt s
  | 58 => formPermit s
  | 59 => { s with clp := { s.clp with silence := 0 } }
  | 60 => { s with clp := { s.clp with telemetry := 0 } }
  | _ => s

/-- An accepted write: the value, then the owner's act (R180). -/
def writeItem (row : ParamRow) (v : Int) (s : State) : State :=
  ownerAct row.id { s with mpr := { s.mpr with params := row.put v s.mpr.params } }

/-! ### Requests -/

/-- No channel is in AUTO or JOG: the envelope gate (R180). -/
def State.envelopeGate (s : State) : Bool :=
  !(s.chL.state = .auto || s.chL.state = .jog || s.chR.state = .auto || s.chR.state = .jog)

/-- Both channels are OFF or cal-open is set: the calibration gate (R180, R184). -/
def State.calibrationGate (s : State) : Bool :=
  (s.chL.state = .off && s.chR.state = .off) || s.mpr.calOpen

/-- The state gate of check 5 by the item's class (R180). -/
def State.writeGate (s : State) : ItemClass → Bool
  | .geometry => true
  | .envelope => s.envelopeGate
  | .tuning => true
  | .calibration => s.calibrationGate

/-- A refusal with LOCKED sets LOCKED_WRITE (R183). -/
def refuseLocked (s : State) : State × Answer := refuse .locked (setFlag .lockedWrite s)

/-- SET_PARAM (R180). -/
def serveSetParam (item : Nat) (v : Int) (s : State) : State × Answer :=
  match findParam item with
  | none => refuse .range s
  | some row =>
    if row.cls = .geometry ∧ (row.get s.mpr.params).isSome then refuse .alreadySet s
    else if row.cls = .envelope ∧ s.mpr.lock then refuseLocked s
    else if !row.ok v then refuse .range s
    else if !s.writeGate row.cls then refuse .state s
    else accept (f8 item ++ bytesBE 4 v) (writeItem row v s)

/-- The place of a class in the list of chapter 10. -/
def ItemClass.place : ItemClass → Nat
  | .geometry => 0
  | .envelope => 1
  | .tuning => 2
  | .calibration => 3

/-- GET_PARAM (R187); the class code is left open (log entry 14). -/
def serveGetParam (item : Nat) (s : State) : State × Answer :=
  match findParam item with
  | none => refuse .range s
  | some row =>
    accept (f8 item ++ [Config.classCode row.cls.place] ++ fOpt 4 (bytesBE 4) (row.get s.mpr.params) ++
      fBool s.mpr.lock ++ fBool s.mpr.calOpen) s

/-- LOCK_ENVELOPE (R183). -/
def serveLockEnvelope (s : State) : State × Answer :=
  accept [] { s with mpr := { s.mpr with lock := true, calOpen := false } }

/-- SET_CAL_OPEN (R184). -/
def serveSetCalOpen (arg : Nat) (s : State) : State × Answer :=
  match yesNoOf arg with
  | none => refuse .range s
  | some b =>
    if s.mpr.lock then refuseLocked s
    else accept [] { s with mpr := { s.mpr with calOpen := b } }

/-- The raw count of a sensor's most recent sample (R185). -/
def State.rawOf (s : State) : Sensor → Nat
  | .plateL => s.chL.rawPlate
  | .plateR => s.chR.rawPlate
  | .legL => s.chL.rawLeg
  | .legR => s.chR.rawLeg
  | .slope => s.slopeRaw

/-- The calibration of a sensor. -/
def State.calOf (s : State) : Sensor → SensorCal
  | .plateL => s.cal.plateL
  | .plateR => s.cal.plateR
  | .legL => s.cal.legL
  | .legR => s.cal.legR
  | .slope => s.cal.slope

/-- The known value lies within the clamp range of the sensor's scaled value (R57, R185). -/
def Sensor.knownOk (x : Sensor) (v : Int) : Bool :=
  match x with
  | .plateL => within (-3000) 5000 v
  | .plateR => within (-3000) 5000 v
  | .legL => within 0 65535 v
  | .legR => within 0 65535 v
  | .slope => within (-1000) 1000 v

/-- The calibration items with a sensor's zero written. -/
def Calibration.setZero (c : Calibration) (x : Sensor) (z : Int) : Calibration :=
  match x with
  | .plateL => { c with plateL := { c.plateL with zero := z } }
  | .plateR => { c with plateR := { c.plateR with zero := z } }
  | .legL => { c with legL := { c.legL with zero := z } }
  | .legR => { c with legR := { c.legR with zero := z } }
  | .slope => { c with slope := { c.slope with zero := z } }

/-- ZERO_SENSOR (R185). The new zero takes three bytes, the fewest that hold its range (R202, log entry 16). -/
def serveZeroSensor (sensor : Nat) (known : Int) (s : State) : State × Answer :=
  match sensorOf sensor with
  | none => refuse .range s
  | some x =>
    if !x.knownOk known then refuse .range s
    else if !s.calibrationGate then refuse .state s
    else if !rawValid (s.rawOf x) then refuse .noSource s
    else
      let z := known - rawScaled (s.rawOf x) (s.calOf x).span
      accept (bytesBE 3 z)
        { s with mpr := { s.mpr with params := { s.mpr.params with cal := s.cal.setZero x z } } }

end Sys2Proof.Machine
end

