-- ==== Sys2Proof/Machine/Plan.lean ====
section
/-! DEFINITION. The Plan Table (chapter 2): staging, the splice and its steps, PLAN_CLEAR, GET_PLAN. -/

namespace Sys2Proof.Machine

/-- The start the next staged segment may not come before: the end of the last staged one (R28). -/
def State.stagingFrom (s : State) : Option Int := s.plt.staging.getLast?.map Segment.finish

/-- STAGE_SEGMENTS (R28). -/
def serveStageSegments (segs : List Segment) (s : State) : State × Answer :=
  if s.plt.splice ≠ .idle then refuse .busy s
  else if !(decide (1 ≤ segs.length) && decide (segs.length ≤ 8) && segs.all Segment.wellFormed &&
      followOn s.stagingFrom segs) then refuse .range s
  else if 32 < s.plt.staging.length + segs.length then refuse .full s
  else
    let t := { s with plt := { s.plt with staging := s.plt.staging ++ segs } }
    accept (f8 t.plt.staging.length) t

/-- STAGE_CLEAR (R29). -/
def serveStageClear (s : State) : State × Answer :=
  if s.plt.splice ≠ .idle then refuse .busy s
  else accept (f8 s.plt.staging.length) { s with plt := { s.plt with staging := [] } }

/-- SPLICE (R32). -/
def serveSplice (a b : Int) (s : State) : State × Answer :=
  if !(chainageOk a && chainageOk b && decide (a < b)) then refuse .range s
  else if !s.plt.staging.all (fun g => decide (a ≤ g.start) && decide (Segment.finish g ≤ b)) then refuse .range s
  else if s.bandMeets a b then refuse .prot s
  else if 127 < s.plt.plan.length + s.plt.staging.length then refuse .full s
  else if s.plt.splice ≠ .idle then refuse .busy s
  else
    accept [] { s with plt := { s.plt with
      splice := .running
      a := a
      b := b
      p := a
      stepIndex := 0
      lastEvent := .accepted } }

/-- The splice is suspended, the plan, p, the step index and the staging list kept, and a SPLICE report queued (R36). -/
def suspendSplice (s : State) : State :=
  queueReport .splice { s with plt := { s.plt with splice := .suspended, lastEvent := .suspended } }

/-- The staged step that takes the head segment `g`, with `rest` behind it (R34). -/
def takeSpliceStep (g : Segment) (rest : List Segment) (s : State) : State :=
  let e := Segment.finish g
  if s.bandMeets s.plt.p e then suspendSplice s
  else
    reformDisposition { s with plt := { s.plt with
      plan := insertSegment g (removeCoverage s.plt.p e s.plt.plan)
      p := e
      stepIndex := s.plt.stepIndex + 1
      staging := rest } }

/-- A staged step: taken in RUNNING while a segment is staged, and not otherwise (R33, R34). -/
def spliceStep (s : State) : State :=
  match s.plt.splice, s.plt.staging with
  | .running, g :: rest => takeSpliceStep g rest s
  | _, _ => s

/-- The final step, in RUNNING with the staging list empty (R33, R35). -/
def spliceFinalStep (s : State) : State :=
  if s.plt.splice = .running ∧ s.plt.staging = [] then
    if s.bandMeets s.plt.p s.plt.b then suspendSplice s
    else
      queueReport .splice (reformDisposition { s with plt := { s.plt with
        plan := removeCoverage s.plt.p s.plt.b s.plt.plan
        p := s.plt.b
        splice := .idle
        lastEvent := .done } })
  else s

/-- SPLICE_RESUME (R37). -/
def serveSpliceResume (s : State) : State × Answer :=
  if s.plt.splice ≠ .suspended then refuse .state s
  else accept [] { s with plt := { s.plt with splice := .running, lastEvent := .resumed } }

/-- SPLICE_ABORT (R38). -/
def serveSpliceAbort (s : State) : State × Answer :=
  if s.plt.splice = .idle then refuse .state s
  else
    accept (fChainage s.plt.p ++ f8 s.plt.stepIndex ++ f8 s.plt.staging.length)
      { s with plt := { s.plt with splice := .idle, lastEvent := .aborted, staging := [] } }

/-- PLAN_CLEAR (R41). -/
def servePlanClear (s : State) : State × Answer :=
  if s.plt.splice ≠ .idle then refuse .busy s
  else if s.anyAuto ∧ s.target = .plan then refuse .state s
  else accept (f8 s.plt.plan.length) (reformDisposition { s with plt := { s.plt with plan := [] } })

/-- GET_PLAN (R42). -/
def serveGetPlan (first count : Nat) (s : State) : State × Answer :=
  if 127 < first ∨ count < 1 ∨ 8 < count then refuse .range s
  else accept (planValues first count s) s

/-- SPLICE_STEP (R34). -/
def execSpliceStep (s : State) : Host.Outcome State Fault Refusal := .next (startTx (spliceStep s))

/-- SPLICE_FINAL_STEP (R35). -/
def execSpliceFinalStep (s : State) : Host.Outcome State Fault Refusal := .next (startTx (spliceFinalStep s))

end Sys2Proof.Machine
end

