-- ==== Sys2Proof/Machine/Status.lean ====
section
/-! DEFINITION. The requests of Computation Status (chapter 7). -/

namespace Sys2Proof.Machine

/-- CLEAR_FLAGS (R135): bits 13 to 15 name no flag (R202). -/
def serveClearFlags (flags : BitVec 16) (s : State) : State × Answer :=
  if 8192 ≤ flags.toNat then refuse .range s
  else
    let t := clearFlags (flags.setWidth 13) s
    accept (fFlags t ++ fBool t.anyFlag) t

/-- ARM_FAULT (R137). -/
def serveArmFault (arm : Nat) (s : State) : State × Answer :=
  match yesNoOf arm with
  | none => refuse .range s
  | some b =>
    let t := { s with cst := { s.cst with armed := b } }
    accept (fBool t.cst.armed ++ f16 t.cst.captures ++ fFlags t) t

/-- GET_FAULT (R140). -/
def serveGetFault (s : State) : State × Answer := accept (getFaultValues s) s

end Sys2Proof.Machine
end

