-- ==== Sys2Proof/Machine/Scanner.lean ====
section
/-! DEFINITION. The Scan Port and Profile Reducer (chapter 5): triggers, the scanner port, the line buffer, the line completion
and the scanner requests. -/

namespace Sys2Proof.Machine

/-! ### Counters (R114) -/

/-- One counter of SPR increased, saturating. -/
def countScan (f : ScanCounters → ScanCounters) (s : State) : State :=
  { s with spr := { s.spr with counters := f s.spr.counters } }

/-- A frame discarded for CRC, length, gap or kind (R95). -/
def countBad (s : State) : State := countScan (fun c => { c with bad := satInc Config.count32Max c.bad }) s

/-- A LINE frame with no matching awaited trigger (R101). -/
def countStray (s : State) : State := countScan (fun c => { c with stray := satInc Config.count32Max c.stray }) s

/-! ### Triggers (R99, R100, R102) -/

/-- The TRIGGER frame of a trigger number (R96). -/
def triggerFrame (n : Nat) : Frame := ⟨0x50, 0, f8 n⟩

/-- SPR sends a TRIGGER and awaits its line (R96, R99). -/
def sendTrigger (scanAt : Int) (mark : LineMark) (s : State) : State :=
  let n := s.spr.trigNumber
  let s := { s with spr := { s.spr with
    sentFrame := some (triggerFrame n)
    awaited := some ⟨n, scanAt, mark, 0⟩
    trigNumber := if n < 255 then n + 1 else 0
    idle := 0 } }
  countScan (fun c => { c with sent := satInc Config.count32Max c.sent }) s

/-- A scan trigger carrying chainage `c` (R99); one issued with that chainage is no longer due (log entry 5). -/
def scanTrigger (c : Int) (s : State) : State :=
  let s := { s with trc := { s.trc with scanDue := s.trc.scanDue.erase c } }
  if !s.spr.enable then s
  else if s.spr.awaited.isSome then countScan (fun k => { k with missed := satInc Config.count32Max k.missed }) s
  else sendTrigger (s.scanChainage c) .newGround s

/-- The idle interval has reached 200 ms (R100); with the scanner off or a line awaited it does not occur (log entry 4). -/
def idleTrigger (s : State) : State :=
  if s.spr.enable ∧ s.spr.awaited = none then sendTrigger (s.scanChainage s.chainage) .idle s else s

/-- The line timeout (R102). -/
def lineTimeout (s : State) : State :=
  if s.spr.awaited.isSome then
    countScan (fun c => { c with timedOut := satInc Config.count32Max c.timedOut })
      { s with spr := { s.spr with awaited := none } }
  else s

/-! ### The scanner port (R95, R96, R101, R103) -/

/-- Point `i` of a LINE payload: a range in two bytes and a strength (R96). -/
def pointAt (payload : List Byte) (i : Nat) : Point :=
  ⟨natBE (fieldAt (1 + 3 * i) 2 payload), natBE (fieldAt (3 + 3 * i) 1 payload)⟩

/-- The 64 points of a LINE payload (R96). -/
def linePoints (payload : List Byte) : List Point := (List.range 64).map (pointAt payload)

/-- A line is offered to the line buffer (R103). -/
def offerLine (l : Line) (s : State) : State :=
  if s.spr.buffer.length < 2 then { s with spr := { s.spr with buffer := s.spr.buffer ++ [l] } }
  else
    setFlag .scanOverrun (countScan (fun c => { c with overruns := satInc Config.count32Max c.overruns }) s)

/-- A LINE frame arrives (R101). -/
def takeLine (number : Nat) (points : List Point) (s : State) : State :=
  match s.spr.awaited with
  | none => countStray s
  | some w =>
    if w.number = number then
      offerLine ⟨w.number, w.scanAt, w.mark, points⟩ { s with spr := { s.spr with awaited := none } }
    else countStray s

/-- A complete frame from the head (R95). -/
def takeScannerFrame (f : Frame) (s : State) : State :=
  if f.kind = 0x51 ∧ f.payload.length = 193 then
    takeLine (natBE (fieldAt 0 1 f.payload)) (linePoints f.payload) s
  else countBad s

/-- One byte from the head (R95). -/
def scannerByte (s : State) (b : Byte) : State :=
  let r := s.spr.rx.push b
  let s := { s with spr := { s.spr with rx := r.1 } }
  match r.2 with
  | .nothing => s
  | .lengthError => countBad s
  | .crcError => countBad s
  | .frame f => takeScannerFrame f s

/-- A gap of more than 5 ms on the scanner port (R95). -/
def scannerGap (s : State) : State :=
  match s.spr.rx with
  | .hunt => s
  | .inFrame _ => countBad { s with spr := { s.spr with rx := .hunt } }

/-! ### The line completion (R104) -/

/-- Step 3, first part: a side's ski surface published with this instant (R107). -/
def publishSki (side : Side) (cells : List Cell) (s : State) : State :=
  match skiSurface (s.skiCells side) cells with
  | none => s
  | some v =>
    match side with
    | .L => { s with spr := { s.spr with skiL := some ⟨v, s.now⟩ } }
    | .R => { s with spr := { s.spr with skiR := some ⟨v, s.now⟩ } }

/-- Step 3, second part: the line's judgements are applied to the condition, and a change queues a SCANNER report (R111, R112). -/
def applyJudgements (fouled low : Bool) (s : State) : State :=
  let f := conditionStep s.tun.nf s.spr.fouled fouled s.spr.fouledRun
  let l := conditionStep s.tun.nl s.spr.lowReturn low s.spr.lowRun
  let t := { s with spr := { s.spr with fouled := f.1, fouledRun := f.2, lowReturn := l.1, lowRun := l.2 } }
  queueIf (f.1 ≠ s.spr.fouled || l.1 ≠ s.spr.lowReturn) .scanner t

/-- The line average of a record, a free value when no unmasked cell has a signature (R113, log entry 12). -/
def takeLineAverage (cells : List Cell) (s : State) : State × Nat :=
  match lineAverage cells with
  | some a => (s, a)
  | none => ({ s with freeUsed := s.freeUsed + 1 }, (Config.freeWord s.freeUsed).toNat)

/-- Step 2: a new-ground line is handed to CHD; an idle line is not (R104). -/
def detectLine (l : Line) (sigs : List (Option Nat)) (s : State) : State × List Bool :=
  match l.mark with
  | .newGround => handOver l sigs s
  | .idle => (s, List.replicate 16 false)

/-- Steps 1 to 4 for the oldest line `l`, with `rest` behind it (R104). -/
def completeLine (l : Line) (rest : List Line) (s : State) : State :=
  let cells := reduceLine s.tun.pointMin s.chd.mask l.points
  let fouled := judgedFouled s.tun cells
  let low := judgedLow s.tun s.chd.mask l.points
  let strength := averageStrength s.chd.mask l.points
  let r := detectLine l (cells.map (·.signature)) s
  let cells := markCells cells r.2
  let s := publishSki .R cells (publishSki .L cells r.1)
  let s := applyJudgements fouled low s
  let a := takeLineAverage cells s
  let record : CellRecord := ⟨l.number, l.scanAt, l.mark, fouled, low, a.2, strength, cells⟩
  let s := a.1
  countScan (fun c => { c with completed := satInc Config.count32Max c.completed })
    { s with spr := { s.spr with latest := some record, buffer := rest } }

/-- The line completion of the oldest line; with an empty buffer it does not occur (R104, log entry 4). -/
def lineCompletion (s : State) : State :=
  match s.spr.buffer with
  | [] => s
  | l :: rest => completeLine l rest s

/-! ### The scanner requests -/

/-- The scanner switched on (R97). -/
def switchOn (s : State) : State :=
  queueReport .scanner { s with spr := { s.spr with
    enable := true
    fouled := false
    lowReturn := false
    fouledRun := 0
    lowRun := 0
    idle := 0 } }

/-- SPR switched off (R98): the counters and the trigger number are kept. -/
def Spr.off (p : Spr) : Spr :=
  { p with
    enable := false
    awaited := none
    idle := 0
    buffer := []
    latest := none
    skiL := none
    skiR := none
    fouled := false
    lowReturn := false
    fouledRun := 0
    lowRun := 0 }

/-- The scanner switched off (R98). -/
def switchOff (s : State) : State :=
  queueReport .scanner { s with spr := s.spr.off, chd := s.chd.scannerOff }

/-- SCAN_ENABLE (R97, R98). -/
def serveScanEnable (arg : Nat) (s : State) : State × Answer :=
  match yesNoOf arg with
  | none => refuse .range s
  | some true =>
    if s.spr.enable then accept [] s
    else if !(s.geo.ds.isSome && s.geo.w.isSome) then refuse .notCommissioned s
    else accept [] (switchOn s)
  | some false => if s.spr.enable then accept [] (switchOff s) else accept [] s

/-- SET_CELL_MASK (R106). -/
def serveSetCellMask (cells : BitVec 16) (s : State) : State × Answer :=
  if cells = 0xFFFF#16 then refuse .range s
  else accept [] { s with chd := { s.chd with mask := cells } }

/-- GET_PROFILE (R113). -/
def serveGetProfile (s : State) : State × Answer := accept (profileValues s) s

/-! ### The event rows -/

/-- SCAN_TRIGGER (R99). -/
def execScanTrigger (c : Int) (s : State) : Host.Outcome State Fault Refusal := .next (startTx (scanTrigger c s))

/-- IDLE_TRIGGER (R100). -/
def execIdleTrigger (s : State) : Host.Outcome State Fault Refusal := .next (startTx (idleTrigger s))

/-- LINE_TIMEOUT (R102). -/
def execLineTimeout (s : State) : Host.Outcome State Fault Refusal := .next (startTx (lineTimeout s))

/-- LINE_ARRIVAL (R95, R101): the bytes are taken one by one. -/
def execLineArrival (bytes : List Byte) (s : State) : Host.Outcome State Fault Refusal :=
  .next (startTx (bytes.foldl scannerByte s))

/-- SCANNER_FRAME_GAP (R95). -/
def execScannerFrameGap (s : State) : Host.Outcome State Fault Refusal := .next (startTx (scannerGap s))

/-- LINE_COMPLETION (R104). -/
def execLineCompletion (s : State) : Host.Outcome State Fault Refusal := .next (startTx (lineCompletion s))

end Sys2Proof.Machine
end

