-- ==== Sys2Proof/Machine/System.lean ====
section
/-! DEFINITION. The resets and the E-stop line: power-on (R16, R43, R75, R94, R115, R131, R141, R159, R178, R188, R201), the
warm restart (R200 and the same tables), the assertion and the release of the line (R51, R90, R176). -/

namespace Sys2Proof.Machine

/-! ### Power-on -/

/-- The power-on event: every block takes its power-on values, CLP queues STATE and TQS forms the permit from STOP (R178,
R201). The E-stop line keeps its level (log entry 23); the waiting commands and the counter of free values are the model's own
(log entry 29). -/
def powerOn (s : State) : State :=
  formPermit (queueReport .state (State.base s.eStop s.freeUsed s.pending))

/-! ### The warm restart, block by block -/

/-- PLT (R43): staging emptied, splice IDLE, a splice in progress ABORTED, the disposition at the drum formed again. -/
def restartPlt (s : State) : State :=
  keepDisposition { s with plt := { s.plt with
    staging := []
    splice := .idle
    lastEvent := if s.plt.splice = .idle then s.plt.lastEvent else .aborted } }

/-- DCH-L and DCH-R (R75): both enter OFF; no report is queued. -/
def restartChannels (s : State) : State := { s with chL := s.chL.toOff, chR := s.chR.toOff }

/-- The lift-cause set without MANUAL: PLAN and WINDOW by the disposition at the drum and the marker states (R90, R94). -/
def State.causesReformed (s : State) : LiftCauses := ⟨false, s.planCause, s.windowCause⟩

/-- MLC (R94): the set emptied and re-formed with no capture and no report, the return depth absent. -/
def restartMlc (s : State) : State :=
  { s with mlc := { s.mlc with causes := s.causesReformed, returnDepth := none } }

/-- SPR and CHD (R115, R131): the scanner is switched off with counters and trigger number 0, the mode in use becomes the
reference mode item. -/
def restartScanner (s : State) : State :=
  { s with
    spr := { s.spr.off with counters := .zero, trigNumber := 0 }
    chd := { s.chd.scannerOff with mode := s.tun.refMode } }

/-- CST (R141): every flag but LOCKED_WRITE cleared, the arm down, the locus empty, the capture count 0. -/
def restartCst (s : State) : State :=
  { s with cst := ⟨s.cst.flags &&& Flag.lockedWrite.bit, false, none, 0⟩ }

/-- VLM and BLT (R160): B is added to Vx and the list emptied. -/
def restartLoad (s : State) : State :=
  { s with load := { s.load with vx := s.load.vx + s.beltContent, parcels := [] } }

/-- TQS before the permit (R178): queue emptied, conveyor STOPPED, command and stall count 0, last full truck absent. -/
def restartTqs (s : State) : State :=
  { s with tqs := { s.tqs with trucks := [], conveyor := .stopped, cmd := 0, stall := 0, lastFull := none } }

/-- The warm restart (R200): every block's part, then TQS forms the permit from what the others left (R178, log entry 36). -/
def warmRestart (s : State) : State :=
  formPermit (restartTqs (restartLoad (restartCst (restartScanner (restartMlc (restartChannels (restartPlt s)))))))

/-! ### The E-stop line -/

/-- The level of the line. -/
def setEStop (b : Bool) (s : State) : State := { s with eStop := b }

/-- The conveyor enters STOPPED from any other state (R176). -/
def eStopConveyor (s : State) : State := if s.tqs.conveyor = .stopped then s else stopConveyor s

/-- The assertion of the line (R51, R90, R176). -/
def assertEStop (s : State) : State :=
  formPermit (eStopConveyor (setCauses .empty (enterOff .R (enterOff .L (setEStop true s)))))

/-- MLC re-forms PLAN and WINDOW at the release; MANUAL does not come back (R90). -/
def reformAfterEStop (s : State) : State := setCauses s.causesReformed s

/-- The release of the line (R90, R176). -/
def releaseEStop (s : State) : State := formPermit (reformAfterEStop (setEStop false s))

/-! ### The event rows -/

/-- POWER_ON_RESET (R201). -/
def execPowerOnReset (s : State) : Host.Outcome State Fault Refusal := .next (powerOn s)

/-- E_STOP_ASSERTED (R51, R90, R176). -/
def execEStopAsserted (s : State) : Host.Outcome State Fault Refusal := .next (startTx (assertEStop s))

/-- E_STOP_RELEASED (R90, R176). -/
def execEStopReleased (s : State) : Host.Outcome State Fault Refusal := .next (startTx (releaseEStop s))

end Sys2Proof.Machine
end

