-- ==== Sys2Proof/Machine/Travel.lean ====
section
/-! DEFINITION. The Travel Counter (chapter 1): pulse qualification, chainage, new ground, belt travel, the speed interval and
SET_DATUM; and what TQS does at the speed interval (R172, R173). -/

namespace Sys2Proof.Machine

/-! ### The pulse qualifiers (R1, R2) -/

/-- The filter period item of an input. -/
def State.filterPeriod (s : State) : Encoder → Int
  | .travel => s.tun.travelFilter
  | .belt => s.tun.beltFilter

/-- The high phase in progress on an input, by the period in force at its rising edge. -/
def Trc.high (t : Trc) : Encoder → Option Int
  | .travel => t.highTravel
  | .belt => t.highBelt

/-- The high phase of an input replaced. -/
def setHigh (e : Encoder) (v : Option Int) (s : State) : State :=
  match e with
  | .travel => { s with trc := { s.trc with highTravel := v } }
  | .belt => { s with trc := { s.trc with highBelt := v } }

/-- The rejected count of an input increased, staying at 65,535 (R1). -/
def countRejected (e : Encoder) (s : State) : State :=
  match e with
  | .travel => { s with trc := { s.trc with rejectedTravel := satInc Config.count16Max s.trc.rejectedTravel } }
  | .belt => { s with trc := { s.trc with rejectedBelt := satInc Config.count16Max s.trc.rejectedBelt } }

/-- A rising edge begins a high phase, judged against the filter period in force now (R1, R2). -/
def risingEdge (e : Encoder) (s : State) : State := setHigh e (some (s.filterPeriod e)) s

/-- A high phase ends after `highUs` µs: it is rejected when it has not lasted two filter periods, by the period in force at
its rising edge, and the item's period when no edge was recorded (R1, R2, log entry 24). -/
def endHighPhase (e : Encoder) (highUs : Nat) (s : State) : State :=
  let period := (s.trc.high e).getD (s.filterPeriod e)
  let s := setHigh e none s
  if (highUs : Int) < 2 * period then countRejected e s else s

/-! ### Travel (R3 to R5, R9 to R11) -/

/-- hw takes a greater chainage, and the boundaries it reaches issue volume steps and one scan trigger (R9, R10, R11). -/
def raiseHw (s : State) : State :=
  let c := s.chainage
  if c ≤ s.trc.hw then s
  else
    let t := s.trc
    let steps := if t.nextVolume ≤ c then ((c - t.nextVolume) / 100 + 1).toNat else 0
    let scan := decide (t.nextScan ≤ c)
    { s with trc := { t with
        hw := c
        nextVolume := t.nextVolume + 100 * steps
        volumeDue := t.volumeDue + steps
        nextScan := if scan then nextScanBoundary t.datum s.tun.scanPitch c else t.nextScan
        scanDue := if scan then t.scanDue ++ [c] else t.scanDue } }

/-- The pulse is withheld at a chainage limit (R4). -/
def State.withheld (s : State) (forward : Bool) : Bool :=
  if forward then s.chainage = Config.chainageLimit else s.chainage = -Config.chainageLimit

/-- A pulse counted by direction (R3). -/
def countTravel (forward : Bool) (s : State) : State :=
  let d : Int := if forward then 1 else -1
  { s with trc := { s.trc with pulses := s.trc.pulses + d, travelInterval := s.trc.travelInterval + d } }

/-- The unclamped sum of R4 lies outside the limits. -/
def State.saturates (s : State) : Bool := !chainageOk (s.trc.rawChainage s.geo.ppm)

/-- A qualified travel pulse reaches the counting logic (R3, R4, R9 to R11, R22). -/
def travelPulse (forward : Bool) (s : State) : State :=
  let s := setHigh .travel none s
  if s.geo.ppm = none then s
  else if s.withheld forward then setFlag .chainageLimit s
  else
    let s := countTravel forward s
    let s := setFlagIf s.saturates .chainageLimit s
    reformDisposition (raiseHw s)

/-! ### The belt (R7, R8) -/

/-- A qualified belt pulse: Pb, the interval count, belt travel and the belt steps it issues (R7, R8). -/
def beltPulse (s : State) : State :=
  let s := setHigh .belt none s
  if s.geo.bppm = none ∨ s.trc.pb = Config.counterMax then s
  else
    let s := { s with trc := { s.trc with pb := s.trc.pb + 1, beltInterval := s.trc.beltInterval + 1 } }
    let d := s.beltTravel
    let steps := if s.trc.nextBelt ≤ d then (d - s.trc.nextBelt) / 10 + 1 else 0
    { s with trc := { s.trc with nextBelt := s.trc.nextBelt + 10 * steps, beltDue := s.trc.beltDue + steps } }

/-! ### The speed interval (R6, R172, R173) -/

/-- trunc(n × 10,000 / ppm), 0 while the item is unset (R6). -/
def intervalSpeed (n : Int) (ppm : Option Int) : Int :=
  match ppm with
  | some q => truncDiv (n * 10000) q
  | none => 0

/-- TRC's part of the speed interval (R6). -/
def measureSpeeds (s : State) : State :=
  { s with trc := { s.trc with
      advance := intervalSpeed s.trc.travelInterval s.geo.ppm
      beltSpeed := intervalSpeed s.trc.beltInterval s.geo.bppm
      travelInterval := 0
      beltInterval := 0
      speedPhase := 0 } }

/-- The conveyor runs under a command: RUNNING or TOPPING. -/
def Conveyor.runs (v : Conveyor) : Bool := v = .running || v = .topping

/-- TQS keeps the stall count; at 20 the conveyor stalls (R173). -/
def keepStall (s : State) : State :=
  if s.tqs.conveyor.runs ∧ s.trc.beltSpeed = 0 then
    if 20 ≤ s.tqs.stall + 1 then formPermit (stopConveyor (setFlag .stall s))
    else { s with tqs := { s.tqs with stall := s.tqs.stall + 1 } }
  else { s with tqs := { s.tqs with stall := 0 } }

/-- TQS forms the belt speed command again (R166, R172). -/
def formCommand (s : State) : State :=
  match s.tqs.conveyor with
  | .running => { s with tqs := { s.tqs with cmd := s.runCommand } }
  | .topping => { s with tqs := { s.tqs with cmd := s.toppingCommand } }
  | .stopped => { s with tqs := { s.tqs with cmd := 0 } }
  | .waiting => { s with tqs := { s.tqs with cmd := 0 } }
  | .hold => { s with tqs := { s.tqs with cmd := 0 } }

/-- The end of a speed interval (R6, R172, R173). -/
def speedInterval (s : State) : State := formCommand (keepStall (measureSpeeds s))

/-! ### SET_DATUM (R13, R14) -/

/-- The splice is RUNNING or SUSPENDED. -/
def State.splicing (s : State) : Bool := s.plt.splice ≠ .idle

/-- The effect of an accepted SET_DATUM (R14), and the disposition at the drum formed again (R22). -/
def setDatum (c : Int) (s : State) : State :=
  reformDisposition
    { s with trc := { s.trc with
        datum := c
        pulses := 0
        hw := c
        nextVolume := c + 100
        nextScan := c + s.tun.scanPitch } }

/-- SET_DATUM (R13, R14). -/
def serveSetDatum (c : Int) (s : State) : State × Answer :=
  if !chainageOk c then refuse .range s
  else if s.anyAuto then refuse .state s
  else if s.splicing then refuse .state s
  else accept [] (setDatum c s)

/-! ### The event rows -/

/-- RISING_EDGE (R1, R2). -/
def execRisingEdge (e : Encoder) (s : State) : Host.Outcome State Fault Refusal := .next (startTx (risingEdge e s))

/-- PULSE_REJECTED (R1, R2). -/
def execPulseRejected (e : Encoder) (highUs : Nat) (s : State) : Host.Outcome State Fault Refusal :=
  .next (startTx (endHighPhase e highUs s))

/-- QUALIFIED_TRAVEL_PULSE (R3). -/
def execQualifiedTravelPulse (forward : Bool) (s : State) : Host.Outcome State Fault Refusal :=
  .next (startTx (travelPulse forward s))

/-- QUALIFIED_BELT_PULSE (R7). -/
def execQualifiedBeltPulse (s : State) : Host.Outcome State Fault Refusal := .next (startTx (beltPulse s))

/-- SPEED_INTERVAL (R6). -/
def execSpeedInterval (s : State) : Host.Outcome State Fault Refusal := .next (startTx (speedInterval s))

end Sys2Proof.Machine
end

