-- ==== Sys2Proof/Machine/Trucks.lean ====
section
/-! DEFINITION. Truck and conveyor requests (chapter 9). -/

namespace Sys2Proof.Machine

/-- A truck id argument (R163). -/
def truckIdOk (id : Nat) : Bool := decide (1 ≤ id) && decide (id ≤ 65535)

/-- TRUCK_ADD (R162). -/
def serveTruckAdd (id target : Nat) (s : State) : State × Answer :=
  if !(truckIdOk id && within 1000 s.env.truckMax target) then refuse .range s
  else if s.tqs.trucks.any (fun t => t.id = id) then refuse .duplicate s
  else if 4 ≤ s.tqs.trucks.length then refuse .full s
  else
    let t := { s with tqs := { s.tqs with trucks := s.tqs.trucks ++ [⟨id, target, 0, .waiting⟩] } }
    accept (f8 t.tqs.trucks.length) t

/-- A truck with this id is in the queue. -/
def State.hasTruck (s : State) (id : Nat) : Bool := s.tqs.trucks.any (fun t => t.id = id)

/-- The head becomes IN_POSITION, and a WAITING conveyor enters RUNNING (R163, R168). -/
def headInPosition (s : State) : State :=
  let s := setHead (fun t => { t with state := .inPosition }) s
  if s.tqs.conveyor = .waiting then formPermit (enterRunning s) else s

/-- TRUCK_IN_POSITION (R163). -/
def serveTruckInPosition (id : Nat) (s : State) : State × Answer :=
  if !truckIdOk id then refuse .range s
  else if !s.hasTruck id then refuse .notFound s
  else
    match s.head with
    | some t => if t.id = id ∧ t.state = .waiting then accept [] (headInPosition s) else refuse .state s
    | none => refuse .notFound s

/-- The head leaves the queue, and a RUNNING, TOPPING or HOLD conveyor enters WAITING (R164). -/
def removeHead (s : State) : State :=
  let s := { s with tqs := { s.tqs with trucks := s.tqs.trucks.tail } }
  match s.tqs.conveyor with
  | .running => formPermit (enterConveyor .waiting 0 s)
  | .topping => formPermit (enterConveyor .waiting 0 s)
  | .hold => formPermit (enterConveyor .waiting 0 s)
  | .stopped => s
  | .waiting => s

/-- TRUCK_AWAY (R164). -/
def serveTruckAway (id : Nat) (s : State) : State × Answer :=
  if !truckIdOk id then refuse .range s
  else if !s.hasTruck id then refuse .notFound s
  else
    match s.head with
    | some t => if t.id = id then accept (fTruck t) (removeHead s) else refuse .state s
    | none => refuse .notFound s

/-- TRUCK_REMOVE (R165). -/
def serveTruckRemove (id : Nat) (s : State) : State × Answer :=
  if !truckIdOk id then refuse .range s
  else if !s.hasTruck id then refuse .notFound s
  else
    match s.head with
    | some t =>
      if t.id = id then refuse .state s
      else accept [] { s with tqs := { s.tqs with trucks := s.tqs.trucks.filter (fun x => x.id ≠ id) } }
    | none => refuse .notFound s

/-- The items CONVEYOR_START needs are set (R167). -/
def State.canConvey (s : State) : Bool :=
  s.geo.lb.isSome && s.geo.cb.isSome && s.geo.bppm.isSome && s.geo.w.isSome

/-- The head truck can take material (R167). -/
def State.headReady (s : State) : Bool :=
  match s.head with
  | some t => t.takes
  | none => false

/-- The conveyor switched on (R167). -/
def startConveyor (s : State) : State :=
  formPermit (if s.headReady then enterRunning s else enterConveyor .waiting 0 s)

/-- CONVEYOR_START (R167). -/
def serveConveyorStart (s : State) : State × Answer :=
  if s.eStop then refuse .estop s
  else if !s.canConvey then refuse .notCommissioned s
  else if s.tqs.conveyor ≠ .stopped then refuse .state s
  else
    let t := startConveyor s
    accept (f8 t.tqs.conveyor.code) t

/-- CONVEYOR_STOP (R171). -/
def serveConveyorStop (s : State) : State × Answer :=
  if s.tqs.conveyor = .stopped then accept [] s else accept [] (formPermit (stopConveyor s))

end Sys2Proof.Machine
end

