-- ==== Sys2Proof/Machine/Link.lean ====
section
/-! DEFINITION. The Control Link Port (chapter 11): receiving, the request buffer, taking a request and its reply, the
transmitter, link silence, telemetry, and CLP's own requests. -/

namespace Sys2Proof.Machine

/-! ### CLP's own requests (R195, R198 to R200) -/

/-- The seven geometry items, set or not, in the order of their ids. -/
def Geometry.setItems (g : Geometry) : List Bool :=
  [g.w.isSome, g.dd.isSome, g.ds.isSome, g.lb.isSome, g.cb.isSome, g.ppm.isSome, g.bppm.isSome]

/-- IDENTIFY (R198). -/
def serveIdentify (s : State) : State × Answer :=
  accept (bytesBE 2 Config.partCode ++ bytesBE 1 Config.protocolRevision ++ fBool (s.geo.setItems.all id) ++
    fSet s.geo.setItems) s

/-- The values of one part of the state (R199). -/
def partValues (s : State) : Nat → Option (List Byte)
  | 0 => some (roadValues s)
  | 1 => some (channelsValues s)
  | 2 => some (scannerValues s)
  | 3 => some (loadingStatus s)
  | 4 => some (statusValues s)
  | _ => none

/-- GET_STATUS (R199). -/
def serveGetStatus (part : Nat) (s : State) : State × Answer :=
  match partValues s part with
  | some vs => accept vs s
  | none => refuse .range s

/-- The enable set replaced, and each pending kind that is not in it withdrawn (R195). -/
def setReporting (kinds : BitVec 9) (s : State) : State :=
  { s with clp := { s.clp with enabled := kinds, waiting := s.clp.waiting &&& kinds } }

/-- SET_REPORTING (R195): bits 9 to 15 name no kind (R202). -/
def serveSetReporting (kinds : BitVec 16) (s : State) : State × Answer :=
  if 512 ≤ kinds.toNat then refuse .range s
  else accept (f16 kinds.toNat) (setReporting (kinds.setWidth 9) s)

/-- RESTART (R200). -/
def serveRestart (s : State) : State × Answer := accept [] (warmRestart s)

/-! ### Taking a request (R192) -/

/-- A taken request is checked by CLP and handed to its owner, which answers it (R192). -/
def serve : Request → State → State × Answer
  | .setDatum c => serveSetDatum c
  | .stageSegments gs => serveStageSegments gs
  | .stageClear => serveStageClear
  | .splice a b => serveSplice a b
  | .spliceResume => serveSpliceResume
  | .spliceAbort => serveSpliceAbort
  | .planClear => servePlanClear
  | .getPlan f n => serveGetPlan f n
  | .addMarker m l t => serveAddMarker m l t
  | .removeMarker i => serveRemoveMarker i
  | .getMarkers f n => serveGetMarkers f n
  | .lift => serveLift
  | .returnDrum => serveReturn
  | .selectTarget x => serveSelectTarget x
  | .setPoint x m d c => serveSetPoint x m d c
  | .setTrim x t => serveSetTrim x t
  | .engage x => serveEngage x
  | .disengage x => serveDisengage x
  | .jog x v d => serveJog x v d
  | .scanEnable x => serveScanEnable x
  | .setCellMask m => serveSetCellMask m
  | .getProfile => serveGetProfile
  | .takeReference => serveTakeReference
  | .clearFlags m => serveClearFlags m
  | .armFault x => serveArmFault x
  | .getFault => serveGetFault
  | .countersReset => serveCountersReset
  | .getLoading f n => serveGetLoading f n
  | .truckAdd i t => serveTruckAdd i t
  | .truckInPosition i => serveTruckInPosition i
  | .truckAway i => serveTruckAway i
  | .truckRemove i => serveTruckRemove i
  | .conveyorStart => serveConveyorStart
  | .conveyorStop => serveConveyorStop
  | .setParam i v => serveSetParam i v
  | .getParam i => serveGetParam i
  | .lockEnvelope => serveLockEnvelope
  | .setCalOpen x => serveSetCalOpen x
  | .zeroSensor x v => serveZeroSensor x v
  | .identify => serveIdentify
  | .getStatus p => serveGetStatus p
  | .setReporting m => serveSetReporting m
  | .restart => serveRestart
  | .unknown _ => refuse .unknownKind
  | .badLength _ => refuse .badLength

/-- The reply to a request: kind + 0x80, the same tag, the result code and the values (R192). -/
def replyFrame (q : Queued) (a : Answer) : Frame :=
  ⟨q.req.kind + 0x80, q.tag, a.code.code :: a.values⟩

/-- The taking of request `q` with `rest` left in the buffer: it leaves the buffer, its owner acts, and the reply fills the
slot (R192). -/
def takeRequest (q : Queued) (rest : List Queued) (s : State) : State :=
  let r := serve q.req { s with clp := { s.clp with buffer := rest } }
  { r.1 with clp := { r.1.clp with slot := some (replyFrame q r.2) } }

/-- CLP takes the oldest request when the reply slot is empty (R192). -/
def takeNext (s : State) : State :=
  match s.clp.slot, s.clp.buffer with
  | none, q :: rest => takeRequest q rest s
  | _, _ => s

/-! ### Requests and the transmitter (R192, R193) -/

/-- What CLP does after a request has come to the buffer or a frame has ended: it takes a request when the slot is empty, the
transmitter chooses when it is IDLE, and a slot emptied by that lets the next request be taken (R192, R193). -/
def pump (s : State) : State := takeNext (startTx (takeNext s))

/-- A request is offered to the request buffer (R191 step 3). -/
def offerRequest (tag : Byte) (r : Request) (s : State) : State :=
  pump
    (if s.clp.buffer.length < 2 then { s with clp := { s.clp with buffer := s.clp.buffer ++ [⟨tag, r⟩] } }
    else countFrames (fun c => { c with dropped := satInc Config.count32Max c.dropped }) s)

/-! ### Receiving (R190, R191, R197) -/

/-- A format error (R190, R191). -/
def countFormat (s : State) : State := countFrames (fun c => { c with format := satInc Config.count32Max c.format }) s

/-- A CRC error (R190). -/
def countCrc (s : State) : State := countFrames (fun c => { c with crc := satInc Config.count32Max c.crc }) s

/-- The silence timer restarts, and silence ends if the link is silent (R191 step 2, R197). -/
def endSilence (s : State) : State :=
  let t := { s with clp := { s.clp with silence := 0, silent := false } }
  if s.clp.silent then formPermit t else t

/-- A valid frame (R191). -/
def validFrame (f : Frame) (s : State) : State :=
  offerRequest f.tag (Request.parse f.kind f.payload)
    (endSilence (countFrames (fun c => { c with valid := satInc Config.count32Max c.valid }) s))

/-- A complete frame: one of kind 0x80 or above is a format error (R191). -/
def takeLinkFrame (f : Frame) (s : State) : State := if 0x80 ≤ f.kind.toNat then countFormat s else validFrame f s

/-- What a received byte brought about (R190, R191). -/
def applyLinkEvent (e : RxEvent) (s : State) : State :=
  match e with
  | .nothing => s
  | .lengthError => countFormat s
  | .crcError => countCrc s
  | .frame f => takeLinkFrame f s

/-- One byte received on the Control Link (R190). -/
def linkByte (s : State) (b : Byte) : State :=
  let r := s.clp.rx.push b
  applyLinkEvent r.2 { s with clp := { s.clp with rx := r.1 } }

/-- A gap of more than 5 ms inside a frame (R190); in HUNT it does not occur (log entry 4). -/
def linkGap (s : State) : State :=
  match s.clp.rx with
  | .hunt => s
  | .inFrame _ =>
    countFrames (fun c => { c with gap := satInc Config.count32Max c.gap }) { s with clp := { s.clp with rx := .hunt } }

/-- The transmitter's frame has ended (R193). -/
def transmitEnd (s : State) : State := pump { s with clp := { s.clp with tx := none } }

/-- The silence timer reaches the timeout (R197, R50, R175); with the timer off or the link silent it does not occur (log
entry 4). -/
def linkSilence (s : State) : State :=
  if 0 < s.tun.silenceTimeout ∧ s.clp.silent = false then
    formPermit (linkHold .R (linkHold .L
      { s with clp := { s.clp with silent := true, silence := s.tun.silenceTimeout.toNat } }))
  else s

/-- The telemetry timer reaches the period (R196); with the period 0 it does not occur (log entry 4). -/
def telemetryPeriod (s : State) : State :=
  if 0 < s.tun.telemetryPeriod then queueReport .telemetry { s with clp := { s.clp with telemetry := 0 } } else s

/-! ### The event rows -/

/-- VALID_FRAME (R190, R191): the bytes are taken one by one. -/
def execValidFrame (bytes : List Byte) (s : State) : Host.Outcome State Fault Refusal := .next (startTx (bytes.foldl linkByte s))

/-- GAP_DISCARD (R190). -/
def execGapDiscard (s : State) : Host.Outcome State Fault Refusal := .next (startTx (linkGap s))

/-- TRANSMIT_END (R193). -/
def execTransmitEnd (s : State) : Host.Outcome State Fault Refusal := .next (transmitEnd s)

/-- LINK_SILENCE (R197). -/
def execLinkSilence (s : State) : Host.Outcome State Fault Refusal := .next (startTx (linkSilence s))

/-- TELEMETRY_PERIOD (R196). -/
def execTelemetryPeriod (s : State) : Host.Outcome State Fault Refusal := .next (startTx (telemetryPeriod s))

/-- FRAME_START (R190): a byte 0x5A. -/
def execFrameStart (s : State) : Host.Outcome State Fault Refusal := .next (startTx (linkByte s startByte))

/-- FRAME_LENGTH_ERROR (R190): a byte, above 248 where the command is well formed. -/
def execFrameLengthError (len : Byte) (s : State) : Host.Outcome State Fault Refusal := .next (startTx (linkByte s len))

end Sys2Proof.Machine
end

