-- ==== Sys2Proof/Machine/Requests.lean ====
section
/-! DEFINITION. The request rows: each request comes to the request buffer of the Control Link Port (R191 step 3, R192). It is
taken at once when the reply slot is empty, and then its owner's rule, named in each docstring, acts; it waits behind a full
slot; it is dropped by a full buffer (log entry 1). -/

namespace Sys2Proof.Machine

/-- RESTART (R200). -/
def execRestart (tag : Byte) (s : State) : Host.Outcome State Fault Refusal :=
  .next (offerRequest tag .restart s)

/-- UNKNOWN_KIND (R192). -/
def execUnknownKind (tag : Byte) (kind : Byte) (s : State) : Host.Outcome State Fault Refusal :=
  .next (offerRequest tag (.unknown kind) s)

/-- SET_DATUM (R13, R14). -/
def execSetDatum (tag : Byte) (c : Int) (s : State) : Host.Outcome State Fault Refusal :=
  .next (offerRequest tag (.setDatum c) s)

/-- STAGE_SEGMENTS (R28). -/
def execStageSegments (tag : Byte) (segs : List Segment) (s : State) : Host.Outcome State Fault Refusal :=
  .next (offerRequest tag (.stageSegments segs) s)

/-- STAGE_CLEAR (R29). -/
def execStageClear (tag : Byte) (s : State) : Host.Outcome State Fault Refusal :=
  .next (offerRequest tag .stageClear s)

/-- SPLICE (R32). -/
def execSplice (tag : Byte) (a b : Int) (s : State) : Host.Outcome State Fault Refusal :=
  .next (offerRequest tag (.splice a b) s)

/-- SPLICE_RESUME (R37). -/
def execSpliceResume (tag : Byte) (s : State) : Host.Outcome State Fault Refusal :=
  .next (offerRequest tag .spliceResume s)

/-- SPLICE_ABORT (R38). -/
def execSpliceAbort (tag : Byte) (s : State) : Host.Outcome State Fault Refusal :=
  .next (offerRequest tag .spliceAbort s)

/-- PLAN_CLEAR (R41). -/
def execPlanClear (tag : Byte) (s : State) : Host.Outcome State Fault Refusal :=
  .next (offerRequest tag .planClear s)

/-- GET_PLAN (R42). -/
def execGetPlan (tag : Byte) (first count : Nat) (s : State) : Host.Outcome State Fault Refusal :=
  .next (offerRequest tag (.getPlan first count) s)

/-- ADD_MARKER (R78). -/
def execAddMarker (tag : Byte) (m : Int) (lead trail : Nat) (s : State) : Host.Outcome State Fault Refusal :=
  .next (offerRequest tag (.addMarker m lead trail) s)

/-- REMOVE_MARKER (R81). -/
def execRemoveMarker (tag : Byte) (id : Nat) (s : State) : Host.Outcome State Fault Refusal :=
  .next (offerRequest tag (.removeMarker id) s)

/-- GET_MARKERS (R82). -/
def execGetMarkers (tag : Byte) (first count : Nat) (s : State) : Host.Outcome State Fault Refusal :=
  .next (offerRequest tag (.getMarkers first count) s)

/-- LIFT (R87). -/
def execLift (tag : Byte) (s : State) : Host.Outcome State Fault Refusal :=
  .next (offerRequest tag .lift s)

/-- RETURN (R88). -/
def execReturnDrum (tag : Byte) (s : State) : Host.Outcome State Fault Refusal :=
  .next (offerRequest tag .returnDrum s)

/-- SELECT_TARGET (R53). -/
def execSelectTarget (tag : Byte) (source : Nat) (s : State) : Host.Outcome State Fault Refusal :=
  .next (offerRequest tag (.selectTarget source) s)

/-- SET_POINT (R54). -/
def execSetPoint (tag : Byte) (side mode : Nat) (depth slope : Int) (s : State) : Host.Outcome State Fault Refusal :=
  .next (offerRequest tag (.setPoint side mode depth slope) s)

/-- SET_TRIM (R55). -/
def execSetTrim (tag : Byte) (side : Nat) (trim : Int) (s : State) : Host.Outcome State Fault Refusal :=
  .next (offerRequest tag (.setTrim side trim) s)

/-- ENGAGE (R45). -/
def execEngage (tag : Byte) (side : Nat) (s : State) : Host.Outcome State Fault Refusal :=
  .next (offerRequest tag (.engage side) s)

/-- DISENGAGE (R46). -/
def execDisengage (tag : Byte) (side : Nat) (s : State) : Host.Outcome State Fault Refusal :=
  .next (offerRequest tag (.disengage side) s)

/-- JOG (R47). -/
def execJog (tag : Byte) (side : Nat) (valve : Int) (duration : Nat) (s : State) : Host.Outcome State Fault Refusal :=
  .next (offerRequest tag (.jog side valve duration) s)

/-- SCAN_ENABLE_ON (R97). -/
def execScanEnableOn (tag : Byte) (s : State) : Host.Outcome State Fault Refusal :=
  .next (offerRequest tag (.scanEnable 1) s)

/-- SCAN_ENABLE_OFF (R98). -/
def execScanEnableOff (tag : Byte) (s : State) : Host.Outcome State Fault Refusal :=
  .next (offerRequest tag (.scanEnable 0) s)

/-- SET_CELL_MASK (R106). -/
def execSetCellMask (tag : Byte) (cells : BitVec 16) (s : State) : Host.Outcome State Fault Refusal :=
  .next (offerRequest tag (.setCellMask cells) s)

/-- GET_PROFILE (R113). -/
def execGetProfile (tag : Byte) (s : State) : Host.Outcome State Fault Refusal :=
  .next (offerRequest tag .getProfile s)

/-- TAKE_REFERENCE (R121). -/
def execTakeReference (tag : Byte) (s : State) : Host.Outcome State Fault Refusal :=
  .next (offerRequest tag .takeReference s)

/-- CLEAR_FLAGS (R135). -/
def execClearFlags (tag : Byte) (flags : BitVec 16) (s : State) : Host.Outcome State Fault Refusal :=
  .next (offerRequest tag (.clearFlags flags) s)

/-- ARM_FAULT (R137). -/
def execArmFault (tag : Byte) (arm : Nat) (s : State) : Host.Outcome State Fault Refusal :=
  .next (offerRequest tag (.armFault arm) s)

/-- GET_FAULT (R140). -/
def execGetFault (tag : Byte) (s : State) : Host.Outcome State Fault Refusal :=
  .next (offerRequest tag .getFault s)

/-- COUNTERS_RESET (R145). -/
def execCountersReset (tag : Byte) (s : State) : Host.Outcome State Fault Refusal :=
  .next (offerRequest tag .countersReset s)

/-- GET_LOADING (R156). -/
def execGetLoading (tag : Byte) (first count : Nat) (s : State) : Host.Outcome State Fault Refusal :=
  .next (offerRequest tag (.getLoading first count) s)

/-- TRUCK_ADD (R162). -/
def execTruckAdd (tag : Byte) (id target : Nat) (s : State) : Host.Outcome State Fault Refusal :=
  .next (offerRequest tag (.truckAdd id target) s)

/-- TRUCK_IN_POSITION (R163). -/
def execTruckInPosition (tag : Byte) (id : Nat) (s : State) : Host.Outcome State Fault Refusal :=
  .next (offerRequest tag (.truckInPosition id) s)

/-- TRUCK_AWAY (R164). -/
def execTruckAway (tag : Byte) (id : Nat) (s : State) : Host.Outcome State Fault Refusal :=
  .next (offerRequest tag (.truckAway id) s)

/-- TRUCK_REMOVE (R165). -/
def execTruckRemove (tag : Byte) (id : Nat) (s : State) : Host.Outcome State Fault Refusal :=
  .next (offerRequest tag (.truckRemove id) s)

/-- CONVEYOR_START (R167). -/
def execConveyorStart (tag : Byte) (s : State) : Host.Outcome State Fault Refusal :=
  .next (offerRequest tag .conveyorStart s)

/-- CONVEYOR_STOP (R171). -/
def execConveyorStop (tag : Byte) (s : State) : Host.Outcome State Fault Refusal :=
  .next (offerRequest tag .conveyorStop s)

/-- SET_PARAM (R180). -/
def execSetParam (tag : Byte) (item : Nat) (value : Int) (s : State) : Host.Outcome State Fault Refusal :=
  .next (offerRequest tag (.setParam item value) s)

/-- GET_PARAM (R187). -/
def execGetParam (tag : Byte) (item : Nat) (s : State) : Host.Outcome State Fault Refusal :=
  .next (offerRequest tag (.getParam item) s)

/-- LOCK_ENVELOPE (R183). -/
def execLockEnvelope (tag : Byte) (s : State) : Host.Outcome State Fault Refusal :=
  .next (offerRequest tag .lockEnvelope s)

/-- SET_CAL_OPEN (R184). -/
def execSetCalOpen (tag : Byte) (arg : Nat) (s : State) : Host.Outcome State Fault Refusal :=
  .next (offerRequest tag (.setCalOpen arg) s)

/-- ZERO_SENSOR (R185). -/
def execZeroSensor (tag : Byte) (sensor : Nat) (known : Int) (s : State) : Host.Outcome State Fault Refusal :=
  .next (offerRequest tag (.zeroSensor sensor known) s)

/-- IDENTIFY (R198). -/
def execIdentify (tag : Byte) (s : State) : Host.Outcome State Fault Refusal :=
  .next (offerRequest tag .identify s)

/-- GET_STATUS (R199). -/
def execGetStatus (tag : Byte) (part : Nat) (s : State) : Host.Outcome State Fault Refusal :=
  .next (offerRequest tag (.getStatus part) s)

/-- SET_REPORTING (R195). -/
def execSetReporting (tag : Byte) (kinds : BitVec 16) (s : State) : Host.Outcome State Fault Refusal :=
  .next (offerRequest tag (.setReporting kinds) s)

/-- The request a request row stands for, with its tag; none for an event row. -/
def queuedOf : Instr → Option Queued
  | .restart tag => some ⟨tag, .restart⟩
  | .unknownKind tag kind => some ⟨tag, .unknown kind⟩
  | .setDatum tag c => some ⟨tag, .setDatum c⟩
  | .stageSegments tag segs => some ⟨tag, .stageSegments segs⟩
  | .stageClear tag => some ⟨tag, .stageClear⟩
  | .splice tag a b => some ⟨tag, .splice a b⟩
  | .spliceResume tag => some ⟨tag, .spliceResume⟩
  | .spliceAbort tag => some ⟨tag, .spliceAbort⟩
  | .planClear tag => some ⟨tag, .planClear⟩
  | .getPlan tag first count => some ⟨tag, .getPlan first count⟩
  | .addMarker tag m lead trail => some ⟨tag, .addMarker m lead trail⟩
  | .removeMarker tag id => some ⟨tag, .removeMarker id⟩
  | .getMarkers tag first count => some ⟨tag, .getMarkers first count⟩
  | .lift tag => some ⟨tag, .lift⟩
  | .returnDrum tag => some ⟨tag, .returnDrum⟩
  | .selectTarget tag source => some ⟨tag, .selectTarget source⟩
  | .setPoint tag side mode depth slope => some ⟨tag, .setPoint side mode depth slope⟩
  | .setTrim tag side trim => some ⟨tag, .setTrim side trim⟩
  | .engage tag side => some ⟨tag, .engage side⟩
  | .disengage tag side => some ⟨tag, .disengage side⟩
  | .jog tag side valve duration => some ⟨tag, .jog side valve duration⟩
  | .scanEnableOn tag => some ⟨tag, .scanEnable 1⟩
  | .scanEnableOff tag => some ⟨tag, .scanEnable 0⟩
  | .setCellMask tag cells => some ⟨tag, .setCellMask cells⟩
  | .getProfile tag => some ⟨tag, .getProfile⟩
  | .takeReference tag => some ⟨tag, .takeReference⟩
  | .clearFlags tag flags => some ⟨tag, .clearFlags flags⟩
  | .armFault tag arm => some ⟨tag, .armFault arm⟩
  | .getFault tag => some ⟨tag, .getFault⟩
  | .countersReset tag => some ⟨tag, .countersReset⟩
  | .getLoading tag first count => some ⟨tag, .getLoading first count⟩
  | .truckAdd tag id target => some ⟨tag, .truckAdd id target⟩
  | .truckInPosition tag id => some ⟨tag, .truckInPosition id⟩
  | .truckAway tag id => some ⟨tag, .truckAway id⟩
  | .truckRemove tag id => some ⟨tag, .truckRemove id⟩
  | .conveyorStart tag => some ⟨tag, .conveyorStart⟩
  | .conveyorStop tag => some ⟨tag, .conveyorStop⟩
  | .setParam tag item value => some ⟨tag, .setParam item value⟩
  | .getParam tag item => some ⟨tag, .getParam item⟩
  | .lockEnvelope tag => some ⟨tag, .lockEnvelope⟩
  | .setCalOpen tag arg => some ⟨tag, .setCalOpen arg⟩
  | .zeroSensor tag sensor known => some ⟨tag, .zeroSensor sensor known⟩
  | .identify tag => some ⟨tag, .identify⟩
  | .getStatus tag part => some ⟨tag, .getStatus part⟩
  | .setReporting tag kinds => some ⟨tag, .setReporting kinds⟩
  | .powerOnReset => none
  | .eStopAsserted => none
  | .eStopReleased => none
  | .qualifiedTravelPulse _ => none
  | .qualifiedBeltPulse => none
  | .pulseRejected _ _ => none
  | .speedInterval => none
  | .volumeStep => none
  | .beltStep => none
  | .loopCycle _ _ _ _ => none
  | .jogExpiry _ => none
  | .spliceStep => none
  | .spliceFinalStep => none
  | .scanTrigger _ => none
  | .idleTrigger => none
  | .lineArrival _ => none
  | .scannerFrameGap => none
  | .lineTimeout => none
  | .lineCompletion => none
  | .validFrame _ => none
  | .gapDiscard => none
  | .transmitEnd => none
  | .linkSilence => none
  | .telemetryPeriod => none
  | .risingEdge _ => none
  | .frameStart => none
  | .frameLengthError _ => none

end Sys2Proof.Machine
end

