-- ==== Sys2Proof/Machine/Dispatch.lean ====
section
/-! DEFINITION. The one match from a command to its meaning, one arm per constructor. -/

namespace Sys2Proof.Machine

/-- The effect of a command on everything but the queue. -/
def exec (i : Instr) (s : State) : Host.Outcome State Fault Refusal :=
  match i with
  | .powerOnReset => Sys2Proof.Machine.execPowerOnReset s
  | .restart tag => Sys2Proof.Machine.execRestart tag s
  | .eStopAsserted => Sys2Proof.Machine.execEStopAsserted s
  | .eStopReleased => Sys2Proof.Machine.execEStopReleased s
  | .qualifiedTravelPulse forward => Sys2Proof.Machine.execQualifiedTravelPulse forward s
  | .qualifiedBeltPulse => Sys2Proof.Machine.execQualifiedBeltPulse s
  | .pulseRejected input highUs => Sys2Proof.Machine.execPulseRejected input highUs s
  | .speedInterval => Sys2Proof.Machine.execSpeedInterval s
  | .volumeStep => Sys2Proof.Machine.execVolumeStep s
  | .beltStep => Sys2Proof.Machine.execBeltStep s
  | .loopCycle side plate leg slope => Sys2Proof.Machine.execLoopCycle side plate leg slope s
  | .jogExpiry side => Sys2Proof.Machine.execJogExpiry side s
  | .spliceStep => Sys2Proof.Machine.execSpliceStep s
  | .spliceFinalStep => Sys2Proof.Machine.execSpliceFinalStep s
  | .scanTrigger c => Sys2Proof.Machine.execScanTrigger c s
  | .idleTrigger => Sys2Proof.Machine.execIdleTrigger s
  | .lineArrival bytes => Sys2Proof.Machine.execLineArrival bytes s
  | .scannerFrameGap => Sys2Proof.Machine.execScannerFrameGap s
  | .lineTimeout => Sys2Proof.Machine.execLineTimeout s
  | .lineCompletion => Sys2Proof.Machine.execLineCompletion s
  | .validFrame bytes => Sys2Proof.Machine.execValidFrame bytes s
  | .gapDiscard => Sys2Proof.Machine.execGapDiscard s
  | .transmitEnd => Sys2Proof.Machine.execTransmitEnd s
  | .linkSilence => Sys2Proof.Machine.execLinkSilence s
  | .telemetryPeriod => Sys2Proof.Machine.execTelemetryPeriod s
  | .unknownKind tag kind => Sys2Proof.Machine.execUnknownKind tag kind s
  | .setDatum tag c => Sys2Proof.Machine.execSetDatum tag c s
  | .stageSegments tag segs => Sys2Proof.Machine.execStageSegments tag segs s
  | .stageClear tag => Sys2Proof.Machine.execStageClear tag s
  | .splice tag a b => Sys2Proof.Machine.execSplice tag a b s
  | .spliceResume tag => Sys2Proof.Machine.execSpliceResume tag s
  | .spliceAbort tag => Sys2Proof.Machine.execSpliceAbort tag s
  | .planClear tag => Sys2Proof.Machine.execPlanClear tag s
  | .getPlan tag first count => Sys2Proof.Machine.execGetPlan tag first count s
  | .addMarker tag m lead trail => Sys2Proof.Machine.execAddMarker tag m lead trail s
  | .removeMarker tag id => Sys2Proof.Machine.execRemoveMarker tag id s
  | .getMarkers tag first count => Sys2Proof.Machine.execGetMarkers tag first count s
  | .lift tag => Sys2Proof.Machine.execLift tag s
  | .returnDrum tag => Sys2Proof.Machine.execReturnDrum tag s
  | .selectTarget tag source => Sys2Proof.Machine.execSelectTarget tag source s
  | .setPoint tag side mode depth slope => Sys2Proof.Machine.execSetPoint tag side mode depth slope s
  | .setTrim tag side trim => Sys2Proof.Machine.execSetTrim tag side trim s
  | .engage tag side => Sys2Proof.Machine.execEngage tag side s
  | .disengage tag side => Sys2Proof.Machine.execDisengage tag side s
  | .jog tag side valve duration => Sys2Proof.Machine.execJog tag side valve duration s
  | .scanEnableOn tag => Sys2Proof.Machine.execScanEnableOn tag s
  | .scanEnableOff tag => Sys2Proof.Machine.execScanEnableOff tag s
  | .setCellMask tag cells => Sys2Proof.Machine.execSetCellMask tag cells s
  | .getProfile tag => Sys2Proof.Machine.execGetProfile tag s
  | .takeReference tag => Sys2Proof.Machine.execTakeReference tag s
  | .clearFlags tag flags => Sys2Proof.Machine.execClearFlags tag flags s
  | .armFault tag arm => Sys2Proof.Machine.execArmFault tag arm s
  | .getFault tag => Sys2Proof.Machine.execGetFault tag s
  | .countersReset tag => Sys2Proof.Machine.execCountersReset tag s
  | .getLoading tag first count => Sys2Proof.Machine.execGetLoading tag first count s
  | .truckAdd tag id target => Sys2Proof.Machine.execTruckAdd tag id target s
  | .truckInPosition tag id => Sys2Proof.Machine.execTruckInPosition tag id s
  | .truckAway tag id => Sys2Proof.Machine.execTruckAway tag id s
  | .truckRemove tag id => Sys2Proof.Machine.execTruckRemove tag id s
  | .conveyorStart tag => Sys2Proof.Machine.execConveyorStart tag s
  | .conveyorStop tag => Sys2Proof.Machine.execConveyorStop tag s
  | .setParam tag item value => Sys2Proof.Machine.execSetParam tag item value s
  | .getParam tag item => Sys2Proof.Machine.execGetParam tag item s
  | .lockEnvelope tag => Sys2Proof.Machine.execLockEnvelope tag s
  | .setCalOpen tag arg => Sys2Proof.Machine.execSetCalOpen tag arg s
  | .zeroSensor tag sensor known => Sys2Proof.Machine.execZeroSensor tag sensor known s
  | .identify tag => Sys2Proof.Machine.execIdentify tag s
  | .getStatus tag part => Sys2Proof.Machine.execGetStatus tag part s
  | .setReporting tag kinds => Sys2Proof.Machine.execSetReporting tag kinds s
  | .risingEdge input => Sys2Proof.Machine.execRisingEdge input s
  | .frameStart => Sys2Proof.Machine.execFrameStart s
  | .frameLengthError len => Sys2Proof.Machine.execFrameLengthError len s

end Sys2Proof.Machine
end

