-- ==== Sys2Proof/Machine/Clock.lean ====
section
/-! DEFINITION. What the part does when no command waits: one event that is due, else one millisecond passes (log entries 2, 5,
6). The event that is due acts by the meaning of its own row. -/

namespace Sys2Proof.Machine

/-! ### One millisecond -/

/-- A jog's time left runs down (R47, R48). -/
def Channel.tick (c : Channel) : Channel := if c.state = .jog then { c with jogLeft := c.jogLeft - 1 } else c

/-- The time since the awaited trigger was sent, and the idle interval of a scanner that is on (R100, R102). -/
def Spr.tick (p : Spr) : Spr :=
  { p with
    awaited := p.awaited.map (fun w => { w with waited := w.waited + 1 })
    idle := if p.enable then p.idle + 1 else p.idle }

/-- The silence timer and the telemetry timer (R196, R197). -/
def Clp.tick (t : Tuning) (p : Clp) : Clp :=
  { p with
    silence := if 0 < t.silenceTimeout ∧ p.silent = false then p.silence + 1 else p.silence
    telemetry := if 0 < t.telemetryPeriod then p.telemetry + 1 else p.telemetry }

/-- One millisecond passes (R6, R48, R100, R102, R138, R196, R197). -/
def tick (s : State) : State :=
  { s with
    now := s.now + 1
    trc := { s.trc with speedPhase := s.trc.speedPhase + 1 }
    chL := s.chL.tick
    chR := s.chR.tick
    spr := s.spr.tick
    clp := s.clp.tick s.tun }

/-! ### The event that is due -/

/-- An event with its condition. -/
def dueIf (b : Bool) (i : Instr) : List Instr := if b then [i] else []

/-- A step that a rise of hw or of belt travel issued (R8, R10, R11). -/
def dueSteps (s : State) : List Instr :=
  dueIf (0 < s.trc.volumeDue) .volumeStep ++ dueIf (0 < s.trc.beltDue) .beltStep ++
  s.trc.scanDue.map (fun c => .scanTrigger c)

/-- The next step of a RUNNING splice (R33). -/
def dueSplice (s : State) : List Instr :=
  dueIf (s.plt.splice = .running) (if s.plt.staging = [] then .spliceFinalStep else .spliceStep)

/-- A jog whose time has run out (R48). -/
def Channel.jogOver (c : Channel) : Bool := c.state = .jog && c.jogLeft = 0

/-- A timer that has reached its limit (R6, R48, R100, R102, R196, R197). -/
def dueTimers (s : State) : List Instr :=
  dueIf s.chL.jogOver (.jogExpiry .L) ++ dueIf s.chR.jogOver (.jogExpiry .R) ++
  dueIf (s.spr.awaited.any (fun w => 20 ≤ w.waited)) .lineTimeout ++
  dueIf (s.spr.enable && 200 ≤ s.spr.idle && s.spr.awaited.isNone) .idleTrigger ++
  dueIf (0 < s.tun.silenceTimeout && !s.clp.silent && s.tun.silenceTimeout ≤ (s.clp.silence : Int)) .linkSilence ++
  dueIf (0 < s.tun.telemetryPeriod && s.tun.telemetryPeriod ≤ (s.clp.telemetry : Int)) .telemetryPeriod ++
  dueIf (100 ≤ s.trc.speedPhase) .speedInterval

/-- An IDLE transmitter has a frame to choose (R193, log entry 8). -/
def dueTransmit (s : State) : List Instr :=
  dueIf (s.clp.tx = none && (s.clp.slot.isSome || s.clp.waiting ≠ 0)) .transmitEnd

/-- The event that is due, if any, in one fixed order (log entry 6). -/
def dueEvent (s : State) : Option Instr := (dueSteps s ++ dueSplice s ++ dueTimers s ++ dueTransmit s).head?

/-- What the part does when no command waits (log entry 2). -/
def idle (s : State) : Host.Outcome State Fault Refusal :=
  match dueEvent s with
  | some i => exec i s
  | none => .next (tick s)

end Sys2Proof.Machine
end

