-- ==== Sys2Proof/Safety.lean ====
section
/-! DEFINITION. What the rules promise of every state the part goes through, as properties that a step keeps. -/

namespace Sys2Proof.Machine

/-- The volume balance (R144): everything cut is delivered, on the belt, in the windrow, spilled or discarded. -/
def State.volumeBalanced (s : State) : Prop :=
  s.load.vc = s.load.vd + s.beltContent + s.load.vw + s.load.vs + s.load.vx

/-- Under E-stop nothing moves (R51, R90, R176): both channels OFF with valve 0, no lift cause, the conveyor STOPPED with
command 0, the permit STOP. At any time an OFF channel has valve 0 (R44), and the command is 0 outside RUNNING and TOPPING
(R166). -/
def State.eStopSafe (s : State) : Prop :=
  (s.chL.state = .off → s.chL.valve = 0) ∧ (s.chR.state = .off → s.chR.valve = 0) ∧
  (s.tqs.conveyor ≠ .running → s.tqs.conveyor ≠ .topping → s.tqs.cmd = 0) ∧
  (s.eStop = true →
    s.chL.state = .off ∧ s.chR.state = .off ∧ s.mlc.causes = .empty ∧ s.tqs.conveyor = .stopped ∧ s.tqs.permit = .stop)

/-- The permit and its reasons are what R174 gives for the inputs as they stand (R175). -/
def State.permitFormed (s : State) : Prop := s.tqs.permit = s.permitOf ∧ s.tqs.reasons = s.reasonsOf

/-- The order of the Control Link (R192, R193): at most two requests wait, only behind a full reply slot, and a reply waits only
behind a frame that is being sent. -/
def State.linkOrdered (s : State) : Prop :=
  s.clp.buffer.length ≤ 2 ∧ (s.clp.buffer ≠ [] → s.clp.slot ≠ none) ∧ (s.clp.slot ≠ none → s.clp.tx ≠ none)

/-- A channel's valve is 0 in OFF and HELD and never outside −Vmax to +Vmax, and HELD is the state with hold causes (R44). -/
def Channel.sound (vmax : Int) (c : Channel) : Prop :=
  (c.state = .off ∨ c.state = .held → c.valve = 0) ∧ -vmax ≤ c.valve ∧ c.valve ≤ vmax ∧
  (c.state = .held ↔ (c.holdSource = true ∨ c.holdLink = true))

/-- Both channels are sound under a Vmax within its range (R44). -/
def State.channelsSound (s : State) : Prop :=
  100 ≤ s.env.vmax ∧ s.env.vmax ≤ 1000 ∧ s.chL.sound s.env.vmax ∧ s.chR.sound s.env.vmax

/-- Segments in start order, none overlapping the next, none empty (R18, R27). -/
def ordered (gs : List Segment) : Prop := followOn none gs = true ∧ ∀ g ∈ gs, 0 < g.length

/-- The plan and the staging list are ordered, and a splice in progress has nothing staged before its progress point (R18, R27,
R34). -/
def State.planOrdered (s : State) : Prop :=
  ordered s.plt.plan ∧ ordered s.plt.staging ∧ (s.plt.splice ≠ .idle → ∀ g ∈ s.plt.staging, s.plt.p ≤ g.start)

/-- The truck queue (R161): at most four trucks, no two of one id, only the head not WAITING; and the conveyor's state fits the
head (R166 to R170): RUNNING and TOPPING load the head, HOLD stands before a FULL head, WAITING has no head that can take
material. -/
def State.trucksSound (s : State) : Prop :=
  s.tqs.trucks.length ≤ 4 ∧ (s.tqs.trucks.map (·.id)).Nodup ∧ (∀ t ∈ s.tqs.trucks.tail, t.state = .waiting) ∧
  match s.tqs.conveyor with
  | .running => s.head.map (·.state) = some .loading
  | .topping => s.head.map (·.state) = some .loading
  | .hold => s.head.map (·.state) = some .full
  | .waiting => s.headReady = false
  | .stopped => True

/-- The travel marks (R4, R9 to R11): the high-water mark is at or above the chainage and below both boundaries, the volume
boundary lies on the grid of 100 mm from the datum, and no pulse is counted before travel ppm is set. -/
def State.travelSound (s : State) : Prop :=
  chainageOk s.trc.datum = true ∧ 20 ≤ s.tun.scanPitch ∧ s.chainage ≤ s.trc.hw ∧ s.trc.hw < s.trc.nextVolume ∧
  s.trc.hw < s.trc.nextScan ∧ (s.trc.nextVolume - s.trc.datum) % 100 = 0 ∧ (s.geo.ppm = none → s.trc.pulses = 0)

/-! ### What an event leaves unchanged -/

/-- CLP differs in its pending-report set alone, which keeps its members and gains enabled kinds among `kinds` at most (R194). -/
def reportsAdded (kinds : BitVec 9) (s t : State) : Prop :=
  t.clp = { s.clp with waiting := t.clp.waiting } ∧ s.clp.waiting ||| t.clp.waiting = t.clp.waiting ∧
  t.clp.waiting ||| (s.clp.waiting ||| (kinds &&& s.clp.enabled)) = s.clp.waiting ||| (kinds &&& s.clp.enabled)

/-- The reports that the change from `s` to `t` calls for are pending, where they are enabled: STATE for a changed channel state,
hold-cause set, lift-cause set or conveyor state (R52, R86, R166), GRADE for a changed ON_GRADE (R72), FAULT for a capture (R139),
TRUCK_FULL for a truck that has become FULL (R170), PERMIT for a changed permit (R175). -/
def changesReported (s t : State) : Prop :=
  ((∃ x, (t.ch x).state ≠ (s.ch x).state ∨ (t.ch x).holdSource ≠ (s.ch x).holdSource ∨
      (t.ch x).holdLink ≠ (s.ch x).holdLink) ∨ t.mlc.causes ≠ s.mlc.causes ∨ t.tqs.conveyor ≠ s.tqs.conveyor →
    s.clp.enabled.getLsbD 0 = true → t.clp.waiting.getLsbD 0 = true) ∧
  ((∃ x, (t.ch x).onGrade ≠ (s.ch x).onGrade) → s.clp.enabled.getLsbD 1 = true → t.clp.waiting.getLsbD 1 = true) ∧
  (t.cst.captures ≠ s.cst.captures → s.clp.enabled.getLsbD 2 = true → t.clp.waiting.getLsbD 2 = true) ∧
  (t.tqs.fullCount ≠ s.tqs.fullCount → s.clp.enabled.getLsbD 3 = true → t.clp.waiting.getLsbD 3 = true) ∧
  (t.tqs.permit ≠ s.tqs.permit → s.clp.enabled.getLsbD 4 = true → t.clp.waiting.getLsbD 4 = true)

/-- The reports of the change from `s` to `t`: those it calls for are pending, and none beside `kinds` has joined. -/
def reportsMade (kinds : BitVec 9) (s t : State) : Prop := reportsAdded kinds s t ∧ changesReported s t

/-- The slope-side return depth after a change of the lift-cause set (R91): a set that leaves empty with no channel RETURNING captures
the d_cmd of the SLOPE side as it stands before the change, and makes the depth absent when neither side is SLOPE; else it is kept. -/
def returnDepthFormed (s t : State) : Prop :=
  t.mlc.returnDepth =
    if s.mlc.causes = ⟨false, false, false⟩ ∧ t.mlc.causes ≠ ⟨false, false, false⟩ ∧ s.chL.returning = false ∧
        s.chR.returning = false then
      (if s.chL.mode = .slope then some s.chL.dCmd
      else if s.chR.mode = .slope then some s.chR.dCmd else none)
    else s.mlc.returnDepth

/-- The topping test that TQS makes when the parcel list of `s` has changed to that of `t` (R153, R169): a RUNNING conveyor whose head
reaches its target with the volume near the discharge end enters TOPPING, and in every other case the conveyor goes on. -/
def toppingTested (s t : State) : Prop :=
  (∀ h rest, s.tqs.conveyor = .running → t.tqs.trucks = h :: rest → h.target * 1000 ≤ h.fill + t.nearDischarge →
    t.tqs.conveyor = .topping ∧ t.tqs.cmd = min s.tun.vbMin s.env.vbMax) ∧
  (∀ h rest, t.tqs.trucks = h :: rest → h.fill + t.nearDischarge < h.target * 1000 →
    t.tqs.conveyor = s.tqs.conveyor ∧ t.tqs.cmd = s.tqs.cmd) ∧
  (s.tqs.conveyor ≠ .running ∨ t.tqs.trucks = [] → t.tqs.conveyor = s.tqs.conveyor ∧ t.tqs.cmd = s.tqs.cmd)

/-- The disposition at the drum formed again (R22) turns `u` into `t`: PLT keeps the lookup at the drum; a changed disposition
re-forms PLAN (R85, R90), with the return depth (R91), and the permit (R174, R175), with their reports, and nothing else changes. -/
def dispositionReformed (u t : State) : Prop :=
  t = { u with plt := t.plt, mlc := t.mlc, tqs := t.tqs, clp := t.clp } ∧
  t.plt = { u.plt with
    disposition := (u.lookup u.drum).disposition, covered := (u.lookup u.drum).covered } ∧
  (t.plt.disposition = u.plt.disposition → t.mlc = u.mlc ∧ t.tqs = u.tqs ∧ t.clp = u.clp) ∧
  (t.plt.disposition ≠ u.plt.disposition →
    t.mlc = { u.mlc with causes := t.mlc.causes, returnDepth := t.mlc.returnDepth } ∧
    t.mlc.causes = { u.mlc.causes with plan := !u.eStop && t.plt.disposition.lifts && u.target = .plan } ∧
    t.tqs = { u.tqs with permit := t.permitOf, reasons := t.reasonsOf } ∧ returnDepthFormed u t ∧ reportsMade 0b000010001 u t)

/-! ### A request taken at once -/

/-- The request buffer and the reply slot are empty: the next request is taken in the event of its coming (R192). -/
def State.linkFree (s : State) : Prop := s.clp.slot = none ∧ s.clp.buffer = []

/-- The reply to a request taken at once (R192, R193): sent when the transmitter is IDLE, else waiting in the slot. -/
def withReply (f : Frame) (s : State) : State :=
  match s.clp.tx with
  | none =>
    { s with clp := { s.clp with
        tx := some f
        counters := { s.clp.counters with replies := satInc Config.count32Max s.clp.counters.replies } } }
  | some _ => { s with clp := { s.clp with slot := some f } }

end Sys2Proof.Machine
end

