-- ==== Sys2Proof/Certificates/Slice0/Obligations.lean ====
section
/-! DEFINITION. The statements for the provers. A statement about a request row speaks of a free link (`linkFree`): the request
is then taken in the event of its coming (R192), and `withReply` says where its reply goes. An event row ends with the choice of an
IDLE transmitter (`startTx`, R193, log entry 8), which `TransmitEnd` writes out. `reportsMade` (Safety.lean) says of a change that the
reports it calls for are pending where they are enabled, and that no others have joined. -/

open Sys2Proof Sys2Proof.Machine

/-! ### One step -/

/-- A step takes the command at the front of the queue: it is `exec` of that command with the queue's rest. -/
def Obligations.StepTakesFrontCommand : Prop :=
  ∀ (c : Instr) (s : State), step { s with pending := c :: s.pending } = exec c s

/-- The model's choice (log entries 2 and 6): on an empty queue the part takes the event that is due, else one millisecond
passes on the running time, the speed interval, the jogs, the idle interval, the line timeout and CLP's two timers. -/
def Obligations.StepOnEmptyQueue : Prop :=
  ∀ s : State, s.pending = [] →
    (∀ c, dueEvent s = some c → step s = exec c s) ∧
    (dueEvent s = none → step s = .next { s with
      now := s.now + 1
      trc := { s.trc with speedPhase := s.trc.speedPhase + 1 }
      chL := if s.chL.state = .jog then { s.chL with jogLeft := s.chL.jogLeft - 1 } else s.chL
      chR := if s.chR.state = .jog then { s.chR with jogLeft := s.chR.jogLeft - 1 } else s.chR
      spr := { s.spr with
        awaited := s.spr.awaited.map (fun w => { w with waited := w.waited + 1 })
        idle := if s.spr.enable then s.spr.idle + 1 else s.spr.idle }
      clp := { s.clp with
        silence := if 0 < s.tun.silenceTimeout ∧ s.clp.silent = false then s.clp.silence + 1 else s.clp.silence
        telemetry := if 0 < s.tun.telemetryPeriod then s.clp.telemetry + 1 else s.clp.telemetry } })

/-! ### Resets and the E-stop line -/

/-- The power-on event (R178, R201) leaves the reset state, with the E-stop line, the waiting commands and the counter of free
values as they were (log entries 23 and 29); under E-stop the permit stays STOP and no PERMIT report is queued. -/
def Obligations.PowerOnEvent : Prop :=
  ∀ s : State, exec .powerOnReset s = .next
    (if s.eStop then
      { State.reset with
        eStop := true, freeUsed := s.freeUsed, pending := s.pending
        tqs := { State.reset.tqs with permit := .stop, reasons := ⟨true, false, false, false⟩ }
        clp := { State.reset.clp with waiting := 0b000000001 } }
    else { State.reset with freeUsed := s.freeUsed, pending := s.pending })

/-- The reset values the spec gives, block by block (R16, R43, R75, R94, R115, R131, R141, R159, R178, R188 with the Reset column
of section 10.1, R201), with the SLOW and STOP lines (R175): both asserted at the permit STOP that the part starts from, SLOW alone
after the power-on event. A field whose reset value is the model's choice (log entries 22, 23, 43) is left out. -/
def Obligations.ResetValues : Prop :=
  ∀ r : State, r = State.reset →
    r.now = 0 ∧ r.chainage = 0 ∧ r.drum = 0 ∧ r.beltTravel = 0 ∧ r.target = .set ∧
    r.trc = { r.trc with
      rejectedTravel := 0, rejectedBelt := 0, pulses := 0, datum := 0, hw := 0, nextVolume := 100, nextScan := 100
      travelInterval := 0, beltInterval := 0, advance := 0, beltSpeed := 0, pb := 0, nextBelt := 10 } ∧
    r.plt = ⟨[], [], .idle, .none, 0, 0, 0, 0, .mill, false⟩ ∧
    (∀ x, r.ch x = { r.ch x with
      state := .off, holdSource := false, holdLink := false, mode := .depth, depthSet := 0, slopeSet := 0, trim := 0
      heldGoal := 0, plate := none, leg := none, slope := none, sourceValid := false, dMeas := 0, dCmd := 0, goal := none
      returning := false, lastLifted := false, valve := 0, grade := 0 } ∧ (r.ch x).onGrade = false) ∧
    r.mlc = { r.mlc with
      markers := [], nextId := 1, lost := 0, eventCount := 0, lastEvent := { r.mlc.lastEvent with kind := .none }
      causes := ⟨false, false, false⟩, returnDepth := none } ∧ r.lifted = false ∧
    r.spr = { r.spr with
      enable := false, trigNumber := 0, awaited := none, idle := 0, buffer := [], latest := none, skiL := none, skiR := none
      fouled := false, lowReturn := false, fouledRun := 0, lowRun := 0, counters := ⟨0, 0, 0, 0, 0, 0, 0⟩ } ∧
    r.chd = ⟨[], none, .rolling, none, 0, .quiet, 0, none, 0, false, false, 0, 0, none⟩ ∧
    r.cst = ⟨0, false, none, 0⟩ ∧ r.anyFlag = false ∧
    r.load = ⟨0, 0, 0, 0, 0, 0, []⟩ ∧ r.beltContent = 0 ∧
    r.tqs = ⟨[], .stopped, 0, 0, none, 0, .slow, ⟨false, false, false, true⟩⟩ ∧
    r.slowLine = true ∧ r.stopLine = false ∧
    (State.base false 0 []).tqs.permit = .stop ∧ (State.base false 0 []).slowLine = true ∧
    (State.base false 0 []).stopLine = true ∧
    r.mpr.lock = false ∧ r.mpr.calOpen = false ∧
    r.geo = ⟨none, none, none, none, none, none, none⟩ ∧ r.env = ⟨3000, 500, 20, 5, 1000, 800, 200, 5000, 40000⟩ ∧
    r.tun = {
      travelFilter := 8, beltFilter := 8, scanPitch := 100, defaultDisp := .hold, bAhead := 20000, bBehind := 2000
      autoLead := 3000, autoTrail := 1500, pointMin := 20, skiCellsL := ⟨0, 2⟩, skiCellsR := ⟨13, 15⟩, fPercent := 80, tf := 30
      nearLimit := 3000, nf := 4, lineMin := 40, nl := 4, refMode := .rolling, k := 4, t := 60, ns := 3, nc := 2, nt := 2
      swell := 125, vbMin := 800, lt := 1000, lp := 1500, silenceTimeout := 1000, telemetryPeriod := 0 } ∧
    (∀ x, r.chTun x = { kp := 32, db := 3, vmin := 0, tol := 20, wSP := 8, wSK := 0 }) ∧
    r.cal = {
      plateL := ⟨0, 4000⟩, plateR := ⟨0, 4000⟩, legL := ⟨0, 20000⟩, legR := ⟨0, 20000⟩, slope := ⟨-1000, 2000⟩, offsetL := 0
      offsetR := 0 } ∧
    r.clp = ⟨.hunt, [], none, none, 0b000010001, 0b010111101, false, 0, 0, ⟨0, 0, 0, 0, 0, 0, 0⟩⟩

/-- A warm restart taken on a free link: what every block clears and what it keeps (R16, R43, R75, R94, R115, R131, R141,
R160, R178, R188, R200), and the reply OK. Log entries 25, 36 and 38 are the model's reading: the assembler of the scanner port and
the last TRIGGER frame are kept, the blocks act in one order, and steps that TRC has issued stay due. -/
def Obligations.WarmRestartEvent : Prop :=
  ∀ (s : State) (tag : Byte), s.linkFree →
    ∃ t : State, exec (.restart tag) s = .next (withReply ⟨0xF3, tag, [0x00]⟩ t) ∧
    t.now = s.now ∧ t.eStop = s.eStop ∧ t.trc = s.trc ∧ t.target = s.target ∧ t.slopeRaw = s.slopeRaw ∧ t.mpr = s.mpr ∧
    t.freeUsed = s.freeUsed ∧ t.pending = s.pending ∧
    t.plt = { s.plt with
      staging := [], splice := .idle
      lastEvent := if s.plt.splice = .idle then s.plt.lastEvent else .aborted
      disposition := (s.lookup s.drum).disposition, covered := (s.lookup s.drum).covered } ∧
    (∀ x, t.ch x = { s.ch x with
      state := .off, holdSource := false, holdLink := false, goal := none, returning := false, lastLifted := false
      valve := 0, jogValue := 0, jogLeft := 0, grade := 0 }) ∧
    t.mlc = { s.mlc with
      causes := ⟨false,
        !s.eStop && (s.lookup s.drum).disposition.lifts && s.target = .plan,
        !s.eStop && s.mlc.markers.any (fun k => k.state = .active)⟩
      returnDepth := none } ∧
    t.spr = { s.spr with
      enable := false, trigNumber := 0, awaited := none, idle := 0, buffer := [], latest := none, skiL := none
      skiR := none, fouled := false, lowReturn := false, fouledRun := 0, lowRun := 0, counters := ⟨0, 0, 0, 0, 0, 0, 0⟩ } ∧
    t.chd = { s.chd with
      history := [], lastAt := none, mode := s.tun.refMode, held := none, stepCount := 0, det := .quiet, n := 0
      quiet := 0, runStart := none, condition := false, geometry := false } ∧
    t.cst = ⟨s.cst.flags &&& 0x1000, false, none, 0⟩ ∧
    t.load = { s.load with vx := s.load.vx + s.beltContent, parcels := [] } ∧
    t.tqs = { s.tqs with
      trucks := [], conveyor := .stopped, cmd := 0, stall := 0, lastFull := none
      permit := t.permitOf, reasons := t.reasonsOf } ∧
    t.clp = { s.clp with waiting :=
      if t.permitOf = s.tqs.permit then s.clp.waiting else s.clp.waiting ||| (0b000010000 &&& s.clp.enabled) }

/-- The E-stop line. Its assertion stops everything and keeps the rest, with both permit lines asserted (R51, R90, R155, R175,
R176). Its release forms PLAN and WINDOW again without MANUAL, with the return depth captured when the set leaves empty (R91), and no
channel and no conveyor moves (R51, R90, R176). A changed channel, set or conveyor queues STATE and a changed permit PERMIT. Each
event ends with the choice of an IDLE transmitter (`startTx`, R193). -/
def Obligations.EStopLine : Prop :=
  (∀ s : State, ∃ t : State, exec .eStopAsserted s = .next (startTx t) ∧
    t.eStop = true ∧ t.chL.state = .off ∧ t.chR.state = .off ∧
    (∀ x, t.ch x = if (s.ch x).state = .off then s.ch x else { s.ch x with
      state := .off, holdSource := false, holdLink := false, goal := none, returning := false, lastLifted := false
      valve := 0, jogValue := 0, jogLeft := 0, grade := 0 }) ∧
    t.mlc = { s.mlc with causes := ⟨false, false, false⟩ } ∧
    t.tqs = { s.tqs with
      conveyor := .stopped, cmd := if s.tqs.conveyor = .stopped then s.tqs.cmd else 0
      stall := if s.tqs.conveyor = .stopped then s.tqs.stall else 0, permit := .stop, reasons := t.reasonsOf } ∧
    t.slowLine = true ∧ t.stopLine = true ∧ t.tqs.reasons.estop = true ∧
    (s.mlc.causes ≠ ⟨false, false, false⟩ → s.clp.enabled.getLsbD 0 = true → t.clp.waiting.getLsbD 0 = true) ∧
    (s.tqs.permit ≠ .stop → s.clp.enabled.getLsbD 4 = true → t.clp.waiting.getLsbD 4 = true) ∧
    reportsMade 0b000010011 s t ∧
    t = { s with eStop := true, chL := t.chL, chR := t.chR, mlc := t.mlc, tqs := t.tqs, clp := t.clp }) ∧
  (∀ s : State, ∃ t : State, exec .eStopReleased s = .next (startTx t) ∧
    t.mlc.causes = ⟨false, s.plt.disposition.lifts && s.target = .plan, s.mlc.markers.any (fun k => k.state = .active)⟩ ∧
    t.mlc = { s.mlc with causes := t.mlc.causes, returnDepth := t.mlc.returnDepth } ∧
    returnDepthFormed s t ∧
    t.tqs = { s.tqs with permit := t.permitOf, reasons := t.reasonsOf } ∧ reportsMade 0b000010001 s t ∧
    t = { s with eStop := false, mlc := t.mlc, tqs := t.tqs, clp := t.clp })

/-- Under E-stop ENGAGE, JOG and CONVEYOR_START are refused with ESTOP and nothing changes (R45, R47, R51, R167), once their
earlier checks pass; with no channel in AUTO, LIFT and RETURN are refused with STATE (R87, R88). -/
def Obligations.EStopRefusals : Prop :=
  ∀ (s : State) (tag : Byte), s.linkFree → s.eStop = true →
    (∀ side, side ≤ 2 → exec (.engage tag side) s = .next (withReply ⟨0xA3, tag, [0x1B]⟩ s)) ∧
    (∀ side valve duration, side ≤ 1 → 10 ≤ duration → duration ≤ 1000 →
      exec (.jog tag side valve duration) s = .next (withReply ⟨0xA5, tag, [0x1B]⟩ s)) ∧
    exec (.conveyorStart tag) s = .next (withReply ⟨0xC4, tag, [0x1B]⟩ s) ∧
    (s.chL.state ≠ .auto → s.chR.state ≠ .auto →
      exec (.lift tag) s = .next (withReply ⟨0x9B, tag, [0x13]⟩ s) ∧
      exec (.returnDrum tag) s = .next (withReply ⟨0x9C, tag, [0x13]⟩ s))

/-! ### Travel (chapter 1) -/

/-- The pulse qualifiers and the belt. A rising edge records the filter period in force (R2), and a high phase that ends before
two of those periods is counted as rejected, staying at 65,535 (R1). A qualified belt pulse (R7, R8) is discarded without bppm and
at the greatest count; else Pb and the interval count increase by one, and each 10 mm boundary that belt travel reaches issues one
belt step. Nothing else changes, but for the choice of an IDLE transmitter (`startTx`, R193) that ends each event. -/
def Obligations.QualifiersAndBelt : Prop :=
  (∀ (s : State) (highUs : Nat) (period : Int),
    exec (.risingEdge .travel) s = .next (startTx { s with trc := { s.trc with highTravel := some s.tun.travelFilter } }) ∧
    exec (.risingEdge .belt) s = .next (startTx { s with trc := { s.trc with highBelt := some s.tun.beltFilter } }) ∧
    (s.trc.highTravel = some period →
      exec (.pulseRejected .travel highUs) s = .next (startTx { s with trc := { s.trc with
        highTravel := none
        rejectedTravel := if (highUs : Int) < 2 * period ∧ s.trc.rejectedTravel < 65535 then s.trc.rejectedTravel + 1
          else if (highUs : Int) < 2 * period then 65535 else s.trc.rejectedTravel } })) ∧
    (s.trc.highBelt = some period →
      exec (.pulseRejected .belt highUs) s = .next (startTx { s with trc := { s.trc with
        highBelt := none
        rejectedBelt := if (highUs : Int) < 2 * period ∧ s.trc.rejectedBelt < 65535 then s.trc.rejectedBelt + 1
          else if (highUs : Int) < 2 * period then 65535 else s.trc.rejectedBelt } }))) ∧
  (∀ s : State,
    (s.geo.bppm = none ∨ s.trc.pb = 9223372036854775807 →
      exec .qualifiedBeltPulse s = .next (startTx { s with trc := { s.trc with highBelt := none } })) ∧
    (∀ q, s.geo.bppm = some q → s.trc.pb ≠ 9223372036854775807 →
      ∃ t n, exec .qualifiedBeltPulse s = .next (startTx t) ∧
        t = { s with trc := { s.trc with
          highBelt := none, pb := s.trc.pb + 1, beltInterval := s.trc.beltInterval + 1
          beltDue := s.trc.beltDue + n, nextBelt := s.trc.nextBelt + 10 * n } } ∧
        t.beltTravel = (Int.tdiv (((s.trc.pb : Int) + 1) * 1000) q).toNat ∧
        t.beltTravel < t.trc.nextBelt ∧ (0 < n → t.trc.nextBelt - 10 ≤ t.beltTravel)))

/-- A qualified travel pulse (R3, R4, R9): without travel ppm it is discarded; at the limit it runs into it is withheld and
sets CHAINAGE_LIMIT; else P and the interval count move by one, hw takes a greater chainage, and what chapter 1 does not name
stays. -/
def Obligations.TravelPulse : Prop :=
  ∀ (s : State) (forward : Bool),
    (s.geo.ppm = none →
      exec (.qualifiedTravelPulse forward) s = .next (startTx { s with trc := { s.trc with highTravel := none } })) ∧
    (∀ ppm, s.geo.ppm = some ppm → s.chainage = (if forward then 1000000000 else -1000000000) →
      ∃ t, exec (.qualifiedTravelPulse forward) s = .next (startTx t) ∧
        t.cst.flags = s.cst.flags ||| 0x800 ∧ reportsMade 0b000000100 s t ∧
        t = { s with trc := { s.trc with highTravel := none }, cst := t.cst, clp := t.clp }) ∧
    (∀ ppm d, s.geo.ppm = some ppm → s.chainage ≠ (if forward then 1000000000 else -1000000000) →
      d = (if forward then 1 else -1) →
      ∃ t u, exec (.qualifiedTravelPulse forward) s = .next (startTx t) ∧ dispositionReformed u t ∧
        u = { s with trc := u.trc, cst := u.cst, clp := u.clp } ∧ reportsMade 0b000000100 s u ∧
        u.trc = { s.trc with
          highTravel := none, pulses := s.trc.pulses + d, travelInterval := s.trc.travelInterval + d
          hw := max s.trc.hw u.chainage, nextVolume := u.trc.nextVolume, volumeDue := u.trc.volumeDue
          nextScan := u.trc.nextScan, scanDue := u.trc.scanDue } ∧
        u.chainage = clampChainage (s.trc.datum + Int.tdiv ((s.trc.pulses + d) * 1000) ppm) ∧
        (chainageOk (s.trc.datum + Int.tdiv ((s.trc.pulses + d) * 1000) ppm) = true → u.cst = s.cst ∧ u.clp = s.clp) ∧
        (chainageOk (s.trc.datum + Int.tdiv ((s.trc.pulses + d) * 1000) ppm) = false →
          u.cst.flags = s.cst.flags ||| 0x800))

/-- What a rise of the high-water mark issues (R10, R11): one volume step for each boundary of 100 mm reached, and one scan
trigger with the chainage of that instant when the scan boundary is reached, which then moves to the first multiple of the pitch
from the datum above hw. -/
def Obligations.NewGroundIssues : Prop :=
  ∀ (s t : State) (forward : Bool), 0 < s.tun.scanPitch → s.trc.hw < s.trc.nextVolume → s.trc.hw < s.trc.nextScan →
    exec (.qualifiedTravelPulse forward) s = .next t →
    s.trc.volumeDue ≤ t.trc.volumeDue ∧
    t.trc.nextVolume = s.trc.nextVolume + 100 * ((t.trc.volumeDue : Int) - s.trc.volumeDue) ∧
    t.trc.hw < t.trc.nextVolume ∧ (s.trc.volumeDue < t.trc.volumeDue → t.trc.nextVolume - 100 ≤ t.trc.hw) ∧
    (t.trc.hw < s.trc.nextScan → t.trc.scanDue = s.trc.scanDue ∧ t.trc.nextScan = s.trc.nextScan) ∧
    (s.trc.nextScan ≤ t.trc.hw →
      t.trc.scanDue = s.trc.scanDue ++ [t.trc.hw] ∧ t.trc.hw < t.trc.nextScan ∧
      t.trc.nextScan - s.tun.scanPitch ≤ t.trc.hw ∧ s.tun.scanPitch ∣ t.trc.nextScan - s.trc.datum)

/-- The end of a speed interval (R6, R172, R173): both speeds from the interval counts, which become 0; a moving or standing
conveyor has stall count 0, and a running one on a still belt one more, until at 20 STALL is set and it enters STOPPED, with STATE
queued, the permit formed again, and PERMIT queued when it changes (R166, R175). -/
def Obligations.SpeedIntervalEnd : Prop :=
  ∀ s : State, ∃ t, exec .speedInterval s = .next (startTx t) ∧
    t.trc = { s.trc with
      advance := match s.geo.ppm with
        | some q => Int.tdiv (s.trc.travelInterval * 10000) q
        | none => 0
      beltSpeed := match s.geo.bppm with
        | some q => Int.tdiv ((s.trc.beltInterval : Int) * 10000) q
        | none => 0
      travelInterval := 0, beltInterval := 0, speedPhase := 0 } ∧
    (s.tqs.conveyor ≠ .running → s.tqs.conveyor ≠ .topping → t.tqs.stall = 0 ∧ t.tqs.cmd = 0) ∧
    (t.trc.beltSpeed ≠ 0 → t.tqs.stall = 0 ∧ t.tqs.conveyor = s.tqs.conveyor) ∧
    (s.tqs.conveyor = .running ∨ s.tqs.conveyor = .topping → t.trc.beltSpeed = 0 → s.tqs.stall < 19 →
      t.tqs.stall = s.tqs.stall + 1 ∧ t.tqs.conveyor = s.tqs.conveyor ∧ t.cst = s.cst) ∧
    (s.tqs.conveyor = .running ∨ s.tqs.conveyor = .topping → t.trc.beltSpeed = 0 → 19 ≤ s.tqs.stall →
      t.tqs.stall = 0 ∧ t.tqs.conveyor = .stopped ∧ t.tqs.cmd = 0 ∧ t.cst.flags = s.cst.flags ||| 0x200) ∧
    (∀ cb, s.geo.cb = some cb → 0 < cb → t.tqs.conveyor = .running →
      ∃ v q, q = Int.tdiv ((if s.lifted then 0 else (s.load.lastParcel : Int)) * max t.trc.advance 0) 100 ∧
        (v - 1) * cb < q * 1000 ∧ q * 1000 ≤ v * cb ∧ t.tqs.cmd = min (max v s.tun.vbMin) s.env.vbMax) ∧
    (t.tqs.conveyor = .topping → t.tqs.cmd = min s.tun.vbMin s.env.vbMax) ∧
    (t.tqs.conveyor = s.tqs.conveyor → t.tqs = { s.tqs with cmd := t.tqs.cmd, stall := t.tqs.stall } ∧
      t.cst = s.cst ∧ t.clp = s.clp) ∧
    t.tqs = { s.tqs with
      conveyor := t.tqs.conveyor, cmd := t.tqs.cmd, stall := t.tqs.stall, permit := t.tqs.permit
      reasons := t.tqs.reasons } ∧
    (t.tqs.conveyor ≠ s.tqs.conveyor → t.tqs.permit = t.permitOf ∧ t.tqs.reasons = t.reasonsOf) ∧
    reportsMade 0b000010101 s t ∧ t = { s with trc := t.trc, tqs := t.tqs, cst := t.cst, clp := t.clp }

/-- SET_DATUM, accepted (R13, R14): the marks restart from `c`, the disposition at the drum is formed again, and the counts of
the belt, the interval counts, the plan, the markers, the staging list, the trucks and the parcels stay. -/
def Obligations.SetDatumAccepted : Prop :=
  ∀ (s : State) (tag : Byte) (c : Int), s.linkFree → -1000000000 ≤ c → c ≤ 1000000000 →
    s.chL.state ≠ .auto → s.chR.state ≠ .auto → s.plt.splice = .idle →
    ∃ t, exec (.setDatum tag c) s = .next (withReply ⟨0x81, tag, [0x00]⟩ t) ∧ t.chainage = c ∧
      dispositionReformed { s with trc := { s.trc with
        datum := c, pulses := 0, hw := c, nextVolume := c + 100, nextScan := c + s.tun.scanPitch } } t

/-! ### The depth plan (chapter 2) -/

/-- STAGE_CLEAR (R29): in IDLE the staging list is emptied and the reply carries how many were removed; in RUNNING and
SUSPENDED the reply is BUSY and nothing changes. -/
def Obligations.StageClear : Prop :=
  ∀ (s : State) (tag : Byte), s.linkFree →
    exec (.stageClear tag) s = .next
      (if s.plt.splice = .idle then
        withReply ⟨0x91, tag, 0x00 :: bytesBE 1 s.plt.staging.length⟩ { s with plt := { s.plt with staging := [] } }
      else withReply ⟨0x91, tag, [0x19]⟩ s)

/-- STAGE_SEGMENTS, SPLICE, SPLICE_RESUME and SPLICE_ABORT, accepted (R28, R32, R37, R38): up to 32 well-formed segments that
follow on are staged, 1 to 8 at a time; a splice begins on a range that holds them and that the protected band does not meet. -/
def Obligations.StagingAndSpliceRequests : Prop :=
  ∀ (s : State) (tag : Byte) (segs : List Segment) (a b : Int), s.linkFree →
    (s.plt.splice = .idle → 1 ≤ segs.length → segs.length ≤ 8 → (∀ g ∈ segs, Segment.wellFormed g = true) →
      (∀ g e, segs.head? = some g → s.plt.staging.getLast? = some e → Segment.finish e ≤ g.start) →
      segs.Pairwise (fun g h => Segment.finish g ≤ h.start) → s.plt.staging.length + segs.length ≤ 32 →
      exec (.stageSegments tag segs) s =
        .next (withReply ⟨0x90, tag, [0x00, BitVec.ofNat 8 (s.plt.staging.length + segs.length)]⟩
          { s with plt := { s.plt with staging := s.plt.staging ++ segs } })) ∧
    (s.plt.splice = .idle → -1000000000 ≤ a → a < b → b ≤ 1000000000 →
      (∀ g ∈ s.plt.staging, a ≤ g.start ∧ Segment.finish g ≤ b) → s.bandMeets a b = false →
      s.plt.plan.length + s.plt.staging.length ≤ 127 →
      exec (.splice tag a b) s = .next (withReply ⟨0x92, tag, [0x00]⟩ { s with plt := { s.plt with
        splice := .running, a := a, b := b, p := a, stepIndex := 0, lastEvent := .accepted } })) ∧
    (s.plt.splice = .suspended →
      exec (.spliceResume tag) s = .next (withReply ⟨0x93, tag, [0x00]⟩
        { s with plt := { s.plt with splice := .running, lastEvent := .resumed } })) ∧
    (s.plt.splice ≠ .idle →
      exec (.spliceAbort tag) s = .next (withReply
        ⟨0x94, tag, 0x00 :: (bytesBE 4 s.plt.p ++ bytesBE 1 s.plt.stepIndex ++ bytesBE 1 s.plt.staging.length)⟩
        { s with plt := { s.plt with splice := .idle, lastEvent := .aborted, staging := [] } }))

/-- The steps of a RUNNING splice. A staged step (R34, R36): when the protected band meets `[p, e)` the splice is suspended and a
SPLICE report queued; else the old coverage of `[p, e)` goes, the segment comes in, and p, the step index and the staging list move.
The final step with nothing staged (R35, R36): suspended in the same way, or the coverage of `[p, b)` goes and the splice is DONE. -/
def Obligations.SpliceStepsTaken : Prop :=
  ∀ s : State, s.plt.splice = .running →
    (∀ (g : Segment) (rest : List Segment), s.plt.staging = g :: rest →
      (s.bandMeets s.plt.p (g.start + g.length) = true →
        exec .spliceStep s = .next (startTx { s with
          plt := { s.plt with splice := .suspended, lastEvent := .suspended }
          clp := { s.clp with waiting := s.clp.waiting ||| (0b010000000 &&& s.clp.enabled) } })) ∧
      (s.bandMeets s.plt.p (g.start + g.length) = false →
        ∃ t, exec .spliceStep s = .next (startTx t) ∧
          dispositionReformed { s with plt := { s.plt with
            plan := insertSegment g (removeCoverage s.plt.p (g.start + g.length) s.plt.plan)
            p := g.start + g.length, stepIndex := s.plt.stepIndex + 1, staging := rest } } t)) ∧
    (s.plt.staging = [] →
      (s.bandMeets s.plt.p s.plt.b = true →
        exec .spliceFinalStep s = .next (startTx { s with
          plt := { s.plt with splice := .suspended, lastEvent := .suspended }
          clp := { s.clp with waiting := s.clp.waiting ||| (0b010000000 &&& s.clp.enabled) } })) ∧
      (s.bandMeets s.plt.p s.plt.b = false →
        ∃ t, exec .spliceFinalStep s = .next
            (startTx { t with clp := { t.clp with waiting := t.clp.waiting ||| (0b010000000 &&& s.clp.enabled) } }) ∧
          dispositionReformed { s with plt := { s.plt with
            plan := removeCoverage s.plt.p s.plt.b s.plt.plan, p := s.plt.b, splice := .idle, lastEvent := .done } } t))

/-- How a plan changes and what guards it. The protected band is [drum − B_behind, drum + B_ahead) and meets a range that it
intersects, unless one of the two is empty (R25). Removing the coverage of `[x, y)` uncovers exactly that range (R30); of a segment
that meets it, what lies below x and what lies from y on is left, with its attributes and with the depth of the segment's own line at
the moved end (R31). Removing works segment by segment. Inserting a segment adds that one and keeps the start order (R34). -/
def Obligations.PlanCoverage : Prop :=
  (∀ (s : State) (x y : Int), x < y → 0 ≤ s.tun.bBehind → 0 ≤ s.tun.bAhead →
    (s.bandMeets x y = true ↔
      (s.tun.bBehind ≠ 0 ∨ s.tun.bAhead ≠ 0) ∧ s.drum - s.tun.bBehind < y ∧ x < s.drum + s.tun.bAhead) ∧
    s.bandMeets x x = false) ∧
  (∀ (plan : List Segment) (x y c : Int), x < y →
    ((removeCoverage x y plan).any (fun g => Segment.covers g c) = true ↔
      plan.any (fun g => Segment.covers g c) = true ∧ (c < x ∨ y ≤ c)) ∧
    (∀ g ∈ removeCoverage x y plan, ∃ h ∈ plan, g.cut = h.cut ∧ g.load = h.load ∧ g.detect = h.detect ∧
      h.start ≤ g.start ∧ Segment.finish g ≤ Segment.finish h) ∧
    removeCoverage x x plan = plan ∧ removeCoverage x y [] = []) ∧
  (∀ (h : Segment) (plan : List Segment) (x y : Int) (below above : List Segment) (left right : Int → Int), x < y →
    left = (fun c => h.l0 + Int.tdiv ((h.l1 - h.l0) * (c - h.start)) h.length) →
    right = (fun c => h.r0 + Int.tdiv ((h.r1 - h.r0) * (c - h.start)) h.length) →
    below = (if h.start < x then [{ h with length := x - h.start, l1 := left x, r1 := right x }] else []) →
    above = (if y < h.start + h.length then
      [{ h with start := y, length := h.start + h.length - y, l0 := left y, r0 := right y }] else []) →
    (h.start + h.length ≤ x ∨ y ≤ h.start → removeCoverage x y (h :: plan) = h :: removeCoverage x y plan) ∧
    (x < h.start + h.length → h.start < y → removeCoverage x y (h :: plan) = below ++ above ++ removeCoverage x y plan)) ∧
  (∀ (g : Segment) (plan : List Segment) (c : Int),
    (insertSegment g plan).Perm (g :: plan) ∧
    ((insertSegment g plan).any (fun h => Segment.covers h c) = true ↔
      Segment.covers g c = true ∨ plan.any (fun h => Segment.covers h c) = true) ∧
    (plan.Pairwise (fun p q => p.start ≤ q.start) → (insertSegment g plan).Pairwise (fun p q => p.start ≤ q.start)))

/-- PLAN_CLEAR, accepted, and GET_PLAN (R41, R42). -/
def Obligations.PlanRequests : Prop :=
  ∀ (s : State) (tag : Byte) (first count : Nat), s.linkFree →
    (s.plt.splice = .idle → ¬(s.anyAuto = true ∧ s.target = .plan) →
      ∃ t, exec (.planClear tag) s = .next (withReply ⟨0x95, tag, 0x00 :: bytesBE 1 s.plt.plan.length⟩ t) ∧
        t.plt = { s.plt with plan := [], disposition := s.tun.defaultDisp.disposition, covered := false } ∧
        dispositionReformed { s with plt := { s.plt with plan := [] } } t) ∧
    (first ≤ 127 → 1 ≤ count → count ≤ 8 →
      exec (.getPlan tag first count) s = .next (withReply ⟨0x96, tag, 0x00 ::
        (bytesBE 1 s.plt.plan.length ++ bytesBE 1 s.plt.staging.length ++ bytesBE 1 s.plt.splice.code ++
        bytesBE 1 s.plt.lastEvent.code ++ bytesBE 4 s.plt.a ++ bytesBE 4 s.plt.b ++ bytesBE 4 s.plt.p ++
        bytesBE 1 s.plt.stepIndex ++ bytesBE 1 (min count (s.plt.plan.length - first) : Nat) ++
        ((s.plt.plan.drop first).take count).flatMap Segment.bytes)⟩ s))

/-! ### Depth channels (chapter 3) -/

/-- ENGAGE, accepted (R45, R52, R175), for one side (0, 1) or both (2): from OFF a channel takes up its measured depth, from HELD
it keeps its depths and loses its causes, in AUTO and unnamed it is left as it is; and the permit is formed again, with STATE
queued for a changed channel and PERMIT for a changed permit. That a channel's control source is judged by the weights MPR holds
at this event is the model's reading (log entry 41). -/
def Obligations.EngageAccepted : Prop :=
  ∀ (s : State) (tag : Byte) (side : Nat) (named : Side → Prop), s.linkFree → s.eStop = false →
    s.geo.w ≠ none → s.geo.dd ≠ none → s.geo.ppm ≠ none → side ≤ 2 →
    (∀ x, named x ↔ side = 2 ∨ side = (if x = .L then 0 else 1)) →
    (∀ x, named x → (s.ch x).state ≠ .jog) →
    (∀ x, named x → (s.ch x).state ≠ .auto →
      s.controlValid x (if s.mlc.causes.nonEmpty ∨ (s.ch x).mode = .depth then .depth else .slope) = true) →
    ∃ t, exec (.engage tag side) s = .next (withReply ⟨0xA3, tag, [0x00]⟩ t) ∧
      (∀ x, named x → (s.ch x).state = .off → t.ch x = { s.ch x with
        state := .auto, dCmd := clamp (s.ch x).dMeas (-s.env.hLift) s.env.dmax
        heldGoal := clamp (s.ch x).dMeas (-s.env.hLift) s.env.dmax, grade := 0, returning := false
        lastLifted := false }) ∧
      (∀ x, named x → (s.ch x).state = .held → t.ch x = { s.ch x with
        state := .auto, holdSource := false, holdLink := false }) ∧
      (∀ x, ¬named x ∨ (s.ch x).state = .auto → t.ch x = s.ch x) ∧
      t.tqs = { s.tqs with permit := t.permitOf, reasons := t.reasonsOf } ∧ reportsMade 0b000010011 s t ∧
      t = { s with chL := t.chL, chR := t.chR, tqs := t.tqs, clp := t.clp }

/-- DISENGAGE (R46, R89), JOG_EXPIRY (R48) and JOG, accepted (R47): a named channel enters OFF with valve 0, keeping its depths
and operator values, and MANUAL goes when none is left in AUTO; a jog whose time has run out ends so; a jog drives the valve at
once, clamped to Vmax. -/
def Obligations.DisengageAndJog : Prop :=
  ∀ (s : State) (tag : Byte) (side : Nat) (x : Side) (valve : Int) (duration : Nat), s.linkFree →
    (side ≤ 2 → ∃ t, exec (.disengage tag side) s = .next (withReply ⟨0xA4, tag, [0x00]⟩ t) ∧
      (∀ y, t.ch y = if (side = 2 ∨ side = (if y = .L then 0 else 1)) ∧ (s.ch y).state ≠ .off then { s.ch y with
          state := .off, holdSource := false, holdLink := false, goal := none, returning := false, lastLifted := false
          valve := 0, jogValue := 0, jogLeft := 0, grade := 0 } else s.ch y) ∧
      t.mlc = (if s.anyAuto = true ∧ t.anyAuto = false then
        { s.mlc with causes := { s.mlc.causes with manual := false } } else s.mlc) ∧
      t.tqs = { s.tqs with permit := t.permitOf, reasons := t.reasonsOf } ∧ reportsMade 0b000010011 s t ∧
      t = { s with chL := t.chL, chR := t.chR, mlc := t.mlc, tqs := t.tqs, clp := t.clp }) ∧
    ((s.ch x).state = .jog → ∃ t, exec (.jogExpiry x) s = .next (startTx t) ∧
      t.ch x = { s.ch x with
        state := .off, holdSource := false, holdLink := false, goal := none, returning := false, lastLifted := false
        valve := 0, jogValue := 0, jogLeft := 0, grade := 0 } ∧
      t.ch x.other = s.ch x.other ∧ t.tqs = { s.tqs with permit := t.permitOf, reasons := t.reasonsOf } ∧
      reportsMade 0b000010011 s t ∧ t = { s with chL := t.chL, chR := t.chR, tqs := t.tqs, clp := t.clp }) ∧
    (s.eStop = false → (s.ch x).state = .off ∨ (s.ch x).state = .jog → 10 ≤ duration → duration ≤ 1000 →
      ∃ t v, exec (.jog tag (if x = .L then 0 else 1) valve duration) s =
          .next (withReply ⟨0xA5, tag, [if v = valve then 0x00 else 0x01]⟩ t) ∧
        v = clamp valve (-s.env.vmax) s.env.vmax ∧
        t.ch x = { s.ch x with state := .jog, jogValue := v, jogLeft := duration, valve := v } ∧
        t.ch x.other = s.ch x.other ∧ t.tqs = { s.tqs with permit := t.permitOf, reasons := t.reasonsOf } ∧
        reportsMade 0b000010001 s t ∧ t = { s with chL := t.chL, chR := t.chR, tqs := t.tqs, clp := t.clp })

/-- SELECT_TARGET, SET_POINT and SET_TRIM, accepted (R53, R54, R55, R85, R86, R90, R91, R175). The set is held empty under E-stop.
A changed set queues STATE and a changed permit PERMIT. A set that PLAN makes non-empty captures the return depth: that both modes
are DEPTH by then, so that it is absent, is the model's order (log entry 19). -/
def Obligations.OperatorValues : Prop :=
  ∀ (s : State) (tag : Byte) (x : Side) (depth slope trim : Int), s.linkFree →
    (∃ t, exec (.selectTarget tag 0) s = .next (withReply ⟨0xA0, tag, [0x00]⟩ t) ∧
      t.mlc = { s.mlc with
        causes := { s.mlc.causes with plan := !s.eStop && s.plt.disposition.lifts }
        returnDepth := t.mlc.returnDepth } ∧
      returnDepthFormed { s with chL := { s.chL with mode := .depth }, chR := { s.chR with mode := .depth } } t ∧
      t.tqs = { s.tqs with permit := t.permitOf, reasons := t.reasonsOf } ∧ reportsMade 0b000010001 s t ∧
      t = { s with
        target := .plan, chL := { s.chL with mode := .depth }, chR := { s.chR with mode := .depth }
        mlc := t.mlc, tqs := t.tqs, clp := t.clp }) ∧
    (∃ t, exec (.selectTarget tag 1) s = .next (withReply ⟨0xA0, tag, [0x00]⟩ t) ∧
      t.mlc = { s.mlc with causes := { s.mlc.causes with plan := false } } ∧
      t.tqs = { s.tqs with permit := t.permitOf, reasons := t.reasonsOf } ∧ reportsMade 0b000010001 s t ∧
      t = { s with target := .set, mlc := t.mlc, tqs := t.tqs, clp := t.clp }) ∧
    (∀ m : SideMode, 0 ≤ depth → depth ≤ 3500 → (m = .slope → s.target = .set ∧ (s.ch x.other).mode = .depth) →
      exec (.setPoint tag (if x = .L then 0 else 1) m.code depth slope) s = .next (withReply
        ⟨0xA1, tag, [if clamp slope (-s.env.smax) s.env.smax = slope then 0x00 else 0x01]⟩
        (s.setCh x { s.ch x with
          mode := m, depthSet := depth, slopeSet := clamp slope (-s.env.smax) s.env.smax }))) ∧
    exec (.setTrim tag (if x = .L then 0 else 1) trim) s = .next (withReply
      ⟨0xA2, tag, [if clamp trim (-s.env.trimLimit) s.env.trimLimit = trim then 0x00 else 0x01]⟩
      (s.setCh x { s.ch x with trim := clamp trim (-s.env.trimLimit) s.env.trimLimit }))

/-- A loop cycle in every state (R56 to R59, R44): the three sensors are sampled and the measured depth is the weighted mean of
the valid sources, kept when there is none; in OFF and JOG nothing else moves but the on-grade counter, which is 0; in HELD the
valve is 0; the other channel and what the cycle does not name stay. A left cycle forms the markers' states and WINDOW, with the
return depth captured when the set leaves empty (R91). The markers the drum has passed by B_behind or more leave the list, each
counted, and the last of them in list order (log entry 20) is the event recorded, with a MARKER report (R80, R92). -/
def Obligations.LoopCycleMeasures : Prop :=
  ∀ (s : State) (x : Side) (plate leg slope : Nat), ∃ t, exec (.loopCycle x plate leg slope) s = .next (startTx t) ∧
    (t.ch x).plate = (if 614 ≤ plate ∧ plate ≤ 3532 then
      some (clamp ((s.plateCal x).zero + Int.tdiv (((plate : Int) - 683) * (s.plateCal x).span) 2730) (-3000) 5000)
      else none) ∧
    (t.ch x).leg = (if 614 ≤ leg ∧ leg ≤ 3532 then
      some (clamp ((s.legCal x).zero + Int.tdiv (((leg : Int) - 683) * (s.legCal x).span) 2730) 0 65535)
      else none) ∧
    (t.ch x).slope = (if 614 ≤ slope ∧ slope ≤ 3532 then
      some (clamp (s.cal.slope.zero + Int.tdiv (((slope : Int) - 683) * s.cal.slope.span) 2730) (-1000) 1000)
      else none) ∧
    (t.ch x).rawPlate = plate ∧ (t.ch x).rawLeg = leg ∧ t.slopeRaw = slope ∧
    (t.weighted x = [] → (t.ch x).dMeas = (s.ch x).dMeas) ∧
    (t.weighted x ≠ [] → (t.ch x).dMeas =
      Int.tdiv ((t.weighted x).map (fun w => w.1 * w.2)).sum ((t.weighted x).map (fun w => w.1)).sum) ∧
    ((s.ch x).state = .off ∨ (s.ch x).state = .jog →
      (t.ch x).state = (s.ch x).state ∧ (t.ch x).valve = (s.ch x).valve ∧ (t.ch x).dCmd = (s.ch x).dCmd ∧
      (t.ch x).goal = (s.ch x).goal ∧ (t.ch x).heldGoal = (s.ch x).heldGoal ∧ (t.ch x).grade = 0 ∧ t.cst = s.cst) ∧
    ((t.ch x).state = .held → (s.ch x).valve = 0 ∨ (s.ch x).state = .auto → (t.ch x).valve = 0) ∧
    (t.ch x).depthSet = (s.ch x).depthSet ∧ (t.ch x).slopeSet = (s.ch x).slopeSet ∧ (t.ch x).trim = (s.ch x).trim ∧
    (t.ch x).mode = (s.ch x).mode ∧ t.ch x.other = s.ch x.other ∧ (x = .R → t.mlc = s.mlc) ∧
    (x = .L → t.mlc.markers = (s.mlc.markers.map (fun k => { k with state :=
        if s.drum < k.m - k.lead then .armed else if s.drum < k.m + k.trail then .active else .passed })).filter
          (fun k => s.drum < k.m + k.trail + s.tun.bBehind) ∧
      t.mlc.causes = { s.mlc.causes with
        window := !s.eStop && t.mlc.markers.any (fun k => k.state = .active) } ∧
      t.mlc.nextId = s.mlc.nextId ∧ t.mlc.lost = s.mlc.lost ∧ returnDepthFormed s t) ∧
    (∀ gone : List Marker, x = .L →
      gone = s.mlc.markers.filter (fun k => decide (k.m + k.trail + s.tun.bBehind ≤ s.drum)) →
      (gone = [] → t.mlc.eventCount = s.mlc.eventCount ∧ t.mlc.lastEvent = s.mlc.lastEvent) ∧
      (s.mlc.eventCount ≤ 65535 → t.mlc.eventCount = (s.mlc.eventCount + gone.length) % 65536) ∧
      (∀ front k, gone = front ++ [k] →
        t.mlc.lastEvent = ⟨.passedOut, k.id, k.m, k.lead, k.trail, k.origin⟩ ∧
        (s.clp.enabled.getLsbD 5 = true → t.clp.waiting.getLsbD 5 = true))) ∧
    t.tqs = { s.tqs with permit := t.tqs.permit, reasons := t.tqs.reasons } ∧ reportsMade 0b000110111 s t ∧
    t = { s with
      slopeRaw := slope, chL := t.chL, chR := t.chR, mlc := t.mlc, cst := t.cst, tqs := t.tqs, clp := t.clp }

/-- A loop cycle of a channel in AUTO under depth control to its setpoint, with no lift and no RETURNING and a valid measured
depth `d` (R60 to R65, R69 to R72): the goal is setpoint + trim within 0 to Dmax, d_cmd moves to it by at most Ru up or Rd down,
the valve follows the error through the deadband, the gain, the floor and Vmax, the clamps set their flags, and the on-grade
counter counts. A changed ON_GRADE queues GRADE (`reportsMade`). -/
def Obligations.LoopCycleDepthControl : Prop :=
  ∀ (s : State) (x : Side) (plate leg slope : Nat) (g cmd e v d : Int),
    (s.ch x).state = .auto → (s.ch x).mode = .depth → (s.ch x).lastLifted = false → (s.ch x).returning = false →
    s.mlc.markers = [] → s.mlc.causes = ⟨false, false, false⟩ → s.target = .set →
    614 ≤ plate → plate ≤ 3532 → 0 < (s.chTun x).wSP → (s.chTun x).wSK = 0 →
    d = clamp ((s.plateCal x).zero + Int.tdiv (((plate : Int) - 683) * (s.plateCal x).span) 2730) (-3000) 5000 →
    g = clamp ((s.ch x).depthSet + (s.ch x).trim) 0 s.env.dmax →
    cmd = (if g < (s.ch x).dCmd then max g ((s.ch x).dCmd - s.env.ru) else min g ((s.ch x).dCmd + s.env.rd)) →
    0 ≤ s.env.rd → 0 ≤ s.env.vmax → 0 < (s.chTun x).kp → e = cmd - d →
    v = (if |e| ≤ (s.chTun x).db then 0
      else Int.tdiv ((s.chTun x).kp * (e - (if e < 0 then -1 else 1) * (s.chTun x).db)) 16) →
    ∃ t, exec (.loopCycle x plate leg slope) s = .next (startTx t) ∧
      (t.ch x).state = .auto ∧ (t.ch x).dMeas = d ∧ (t.ch x).goal = some g ∧ (t.ch x).dCmd = cmd ∧
      (v = 0 → (t.ch x).valve = 0) ∧
      (v ≠ 0 → (t.ch x).valve = (if e < 0 then -1 else 1) * min s.env.vmax (max |v| (s.chTun x).vmin)) ∧
      (t.ch x).grade = (if |e| ≤ (s.chTun x).tol then min ((s.ch x).grade + 1) 10 else 0) ∧
      ((s.ch x).depthSet + (s.ch x).trim < 0 ∨ s.env.dmax < (s.ch x).depthSet + (s.ch x).trim →
        t.cst.flags.getLsbD (if x = .L then 2 else 5) = true) ∧
      (v ≠ 0 → s.env.vmax < max |v| (s.chTun x).vmin → t.cst.flags.getLsbD (if x = .L then 0 else 3) = true) ∧
      (0 ≤ (s.ch x).depthSet + (s.ch x).trim → (s.ch x).depthSet + (s.ch x).trim ≤ s.env.dmax →
        v = 0 ∨ max |v| (s.chTun x).vmin ≤ s.env.vmax → t.cst = s.cst) ∧
      (t.ch x).heldGoal = (s.ch x).heldGoal ∧ (t.ch x).sourceValid = true ∧
      (t.ch x).holdSource = (s.ch x).holdSource ∧ (t.ch x).holdLink = (s.ch x).holdLink ∧
      (t.ch x).depthSet = (s.ch x).depthSet ∧ (t.ch x).slopeSet = (s.ch x).slopeSet ∧ (t.ch x).trim = (s.ch x).trim ∧
      t.ch x.other = s.ch x.other ∧ reportsMade 0b000000110 s t ∧
      t = { s with slopeRaw := slope, chL := t.chL, chR := t.chR, cst := t.cst, clp := t.clp }

/-- Goal, held goal, d_cmd and RETURNING at a loop cycle of a channel in AUTO or HELD (R24, R61 to R66, R68). `lifted` is the lift
state the cycle reads and `ret` RETURNING as step 2 leaves it. A lifted drum heads for −H_lift. Else a DEPTH side heads for depth
setpoint + trim under SET; under PLAN for the plan depth + trim where a CUT segment covers the drum, and that clamped goal becomes
the held goal; elsewhere under PLAN for the held goal. A RETURNING SLOPE side heads for the slope-side return depth, or for
setpoint + trim when there is none. A DEPTH side's goal is clamped to 0 to Dmax with the CLAMP flag (R64); that the return goal of
a SLOPE side is clamped and flagged in the same way is the model's reading (log entry 11). d_cmd moves by at most Ru up or Rd
down, and RETURNING ends when it reaches the goal. A SLOPE side in slope control has no goal and keeps d_cmd on its measured
depth. -/
def Obligations.LoopCycleGoals : Prop :=
  ∀ (s : State) (x : Side) (plate leg slope : Nat), (s.ch x).state = .auto ∨ (s.ch x).state = .held →
    ∃ (t : State) (lifted ret : Bool), exec (.loopCycle x plate leg slope) s = .next (startTx t) ∧
      (lifted = true ↔ t.mlc.causes ≠ ⟨false, false, false⟩ ∧ (s.chL.state = .auto ∨ s.chR.state = .auto)) ∧
      ret = (if lifted then false else if (s.ch x).lastLifted then true else (s.ch x).returning) ∧
      (t.ch x).lastLifted = lifted ∧
      ((t.ch x).returning = true ↔ ret = true ∧ (t.ch x).goal ≠ some (t.ch x).dCmd) ∧
      (lifted = true → (t.ch x).goal = some (-s.env.hLift) ∧ (t.ch x).heldGoal = (s.ch x).heldGoal) ∧
      (∀ raw, lifted = false → (s.ch x).mode = .depth → s.target = .set → raw = (s.ch x).depthSet + (s.ch x).trim →
        (t.ch x).goal = some (clamp raw 0 s.env.dmax) ∧ (t.ch x).heldGoal = (s.ch x).heldGoal ∧
        (raw < 0 ∨ s.env.dmax < raw → t.cst.flags.getLsbD (if x = .L then 2 else 5) = true)) ∧
      (∀ raw g, lifted = false → (s.ch x).mode = .depth → s.target = .plan →
        s.plt.plan.find? (fun h => decide (h.start ≤ s.drum) && decide (s.drum < h.start + h.length)) = some g → g.cut = true →
        raw = (if x = .L then g.l0 + Int.tdiv ((g.l1 - g.l0) * (s.drum - g.start)) g.length
          else g.r0 + Int.tdiv ((g.r1 - g.r0) * (s.drum - g.start)) g.length) + (s.ch x).trim →
        (t.ch x).goal = some (clamp raw 0 s.env.dmax) ∧ (t.ch x).heldGoal = clamp raw 0 s.env.dmax ∧
        (raw < 0 ∨ s.env.dmax < raw → t.cst.flags.getLsbD (if x = .L then 2 else 5) = true)) ∧
      (∀ raw, lifted = false → (s.ch x).mode = .depth → s.target = .plan →
        (∀ g, s.plt.plan.find? (fun h => decide (h.start ≤ s.drum) && decide (s.drum < h.start + h.length)) = some g →
          g.cut = false) → raw = (s.ch x).heldGoal →
        (t.ch x).goal = some (clamp raw 0 s.env.dmax) ∧ (t.ch x).heldGoal = (s.ch x).heldGoal ∧
        (raw < 0 ∨ s.env.dmax < raw → t.cst.flags.getLsbD (if x = .L then 2 else 5) = true)) ∧
      (∀ raw, lifted = false → (s.ch x).mode = .slope → ret = true →
        raw = (match t.mlc.returnDepth with
          | some d => d
          | none => (s.ch x).depthSet + (s.ch x).trim) →
        (t.ch x).goal = some (clamp raw 0 s.env.dmax) ∧ (t.ch x).heldGoal = (s.ch x).heldGoal ∧
        (raw < 0 ∨ s.env.dmax < raw → t.cst.flags.getLsbD (if x = .L then 2 else 5) = true)) ∧
      (lifted = false → (s.ch x).mode = .slope → ret = false →
        (t.ch x).goal = none ∧ (t.ch x).heldGoal = (s.ch x).heldGoal ∧
        (t.weighted x ≠ [] → (t.ch x).dCmd = clamp (t.ch x).dMeas (-s.env.hLift) s.env.dmax) ∧
        (t.weighted x = [] → (t.ch x).dCmd = (s.ch x).dCmd)) ∧
      (∀ g, (t.ch x).goal = some g →
        (g < (s.ch x).dCmd → (t.ch x).dCmd = max g ((s.ch x).dCmd - s.env.ru)) ∧
        ((s.ch x).dCmd < g → (t.ch x).dCmd = min g ((s.ch x).dCmd + s.env.rd)) ∧
        (g = (s.ch x).dCmd → (t.ch x).dCmd = g))

/-- A loop cycle of a channel in AUTO under slope control, with no lift and no RETURNING (R49, R60, R67, R69 to R72): with a valid
slope value the error is trunc((slope setpoint − slope value) × W / 1000), negated on the left, and it drives the valve and the
on-grade counter as a depth error does; without one the channel enters HELD with SOURCE, valve 0, and its SRCLOSS flag is set. A
changed ON_GRADE queues GRADE (`reportsMade`). -/
def Obligations.LoopCycleSlopeControl : Prop :=
  ∀ (s : State) (x : Side) (plate leg slope : Nat), (s.ch x).state = .auto → (s.ch x).mode = .slope →
    (s.ch x).lastLifted = false → (s.ch x).returning = false → s.mlc.markers = [] → s.mlc.causes = ⟨false, false, false⟩ →
    (∀ w val e0 e v : Int, 614 ≤ slope → slope ≤ 3532 → s.geo.w = some w → 0 < (s.chTun x).kp → 0 ≤ s.env.vmax →
      val = clamp (s.cal.slope.zero + Int.tdiv (((slope : Int) - 683) * s.cal.slope.span) 2730) (-1000) 1000 →
      e0 = Int.tdiv (((s.ch x).slopeSet - val) * w) 1000 → e = (if x = .L then -e0 else e0) →
      v = (if |e| ≤ (s.chTun x).db then 0
        else Int.tdiv ((s.chTun x).kp * (e - (if e < 0 then -1 else 1) * (s.chTun x).db)) 16) →
      ∃ t, exec (.loopCycle x plate leg slope) s = .next (startTx t) ∧
        (t.ch x).state = .auto ∧ (t.ch x).slope = some val ∧ (t.ch x).goal = none ∧ (t.ch x).sourceValid = true ∧
        (v = 0 → (t.ch x).valve = 0) ∧
        (v ≠ 0 → (t.ch x).valve = (if e < 0 then -1 else 1) * min s.env.vmax (max |v| (s.chTun x).vmin)) ∧
        (t.ch x).grade = (if |e| ≤ (s.chTun x).tol then min ((s.ch x).grade + 1) 10 else 0) ∧
        (v ≠ 0 → s.env.vmax < max |v| (s.chTun x).vmin → t.cst.flags.getLsbD (if x = .L then 0 else 3) = true) ∧
        (v = 0 ∨ max |v| (s.chTun x).vmin ≤ s.env.vmax → t.cst = s.cst) ∧
        t.ch x.other = s.ch x.other ∧ reportsMade 0b000000110 s t ∧
        t = { s with slopeRaw := slope, chL := t.chL, chR := t.chR, cst := t.cst, clp := t.clp }) ∧
    (slope < 614 ∨ 3532 < slope →
      ∃ t, exec (.loopCycle x plate leg slope) s = .next (startTx t) ∧
        (t.ch x).state = .held ∧ (t.ch x).holdSource = true ∧ (t.ch x).holdLink = false ∧ (t.ch x).valve = 0 ∧
        (t.ch x).slope = none ∧ (t.ch x).sourceValid = false ∧ (t.ch x).grade = 0 ∧
        t.cst.flags.getLsbD (if x = .L then 1 else 4) = true ∧
        t.tqs = { s.tqs with permit := t.permitOf, reasons := t.reasonsOf } ∧
        (s.clp.enabled.getLsbD 0 = true → t.clp.waiting.getLsbD 0 = true))

/-- The loss and the regaining of a source in depth control (R49, R60, R175): a channel in AUTO whose side plate is invalid and
whose ski has no weight enters HELD with SOURCE, valve 0, and its SRCLOSS flag is set; a channel HELD with SOURCE alone returns
to AUTO at the first cycle with a valid side plate, and one HELD with LINK as well stays HELD. -/
def Obligations.SourceLossAndReturn : Prop :=
  ∀ (s : State) (x : Side) (plate leg slope : Nat), (s.ch x).mode = .depth → (s.chTun x).wSK = 0 →
    ((s.ch x).state = .auto → plate < 614 ∨ 3532 < plate →
      ∃ t, exec (.loopCycle x plate leg slope) s = .next (startTx t) ∧
        (t.ch x).state = .held ∧ (t.ch x).holdSource = true ∧ (t.ch x).holdLink = false ∧ (t.ch x).valve = 0 ∧
        (t.ch x).dMeas = (s.ch x).dMeas ∧ (t.ch x).sourceValid = false ∧ (t.ch x).grade = 0 ∧
        t.cst.flags.getLsbD (if x = .L then 1 else 4) = true ∧
        t.tqs = { s.tqs with permit := t.permitOf, reasons := t.reasonsOf } ∧
        (s.clp.enabled.getLsbD 0 = true → t.clp.waiting.getLsbD 0 = true)) ∧
    ((s.ch x).state = .held → (s.ch x).holdSource = true → 0 < (s.chTun x).wSP → 614 ≤ plate → plate ≤ 3532 →
      ∃ t, exec (.loopCycle x plate leg slope) s = .next (startTx t) ∧
        (t.ch x).state = (if (s.ch x).holdLink then .held else .auto) ∧ (t.ch x).holdSource = false ∧
        (t.ch x).holdLink = (s.ch x).holdLink ∧ (t.ch x).sourceValid = true ∧
        t.tqs = { s.tqs with permit := t.permitOf, reasons := t.reasonsOf } ∧
        (s.clp.enabled.getLsbD 0 = true → t.clp.waiting.getLsbD 0 = true))

/-! ### Markers and the lift (chapter 4) -/

/-- ADD_MARKER, REMOVE_MARKER and GET_MARKERS, accepted (R76 to R78, R81, R82, R85): a new marker takes a free id, its state by
the drum, its place in chainage order, and WINDOW is formed again, with the return depth captured when the set leaves empty (R91)
and a STATE report of a changed set; a removed one leaves, and the lift-cause set stays. An absent return depth in GET_MARKERS
keeps its width (log entry 15). -/
def Obligations.MarkerRequests : Prop :=
  ∀ (s : State) (tag : Byte) (m : Int) (lead trail id first count : Nat) (k : Marker), s.linkFree →
    (-1000000000 ≤ m → m ≤ 1000000000 → lead ≤ 20000 → trail ≤ 20000 → (∀ q ∈ s.mlc.markers, q.m ≠ m) →
      s.mlc.markers.length < 16 → 1 ≤ s.mlc.nextId → s.mlc.nextId ≤ 255 →
      ∃ t, ∃ n st : Nat, exec (.addMarker tag m lead trail) s =
          .next (withReply ⟨0x98, tag, 0x00 :: (bytesBE 1 n ++ bytesBE 1 st)⟩ t) ∧
        (∀ q ∈ s.mlc.markers, q.id ≠ n) ∧ ((∀ q ∈ s.mlc.markers, q.id ≠ s.mlc.nextId) → n = s.mlc.nextId) ∧
        ∃ new : Marker, new.id = n ∧ new.m = m ∧ new.lead = lead ∧ new.trail = trail ∧ new.origin = .machine ∧
          new.state.code = st ∧
          new.state = (if s.drum < m - lead then .armed else if s.drum < m + trail then .active else .passed) ∧
          t.mlc.markers.Perm (new :: s.mlc.markers) ∧
          (s.mlc.markers.Pairwise (fun p q => p.m < q.m) → t.mlc.markers.Pairwise (fun p q => p.m < q.m)) ∧
          t.mlc = { s.mlc with
            markers := t.mlc.markers, nextId := if n < 255 then n + 1 else 1
            lastEvent := ⟨.added, n, m, lead, trail, .machine⟩
            eventCount := if s.mlc.eventCount < 65535 then s.mlc.eventCount + 1 else 0
            causes := { s.mlc.causes with
              window := !s.eStop && (new :: s.mlc.markers).any (fun q => q.state = .active) }
            returnDepth := t.mlc.returnDepth } ∧
          returnDepthFormed s t ∧ reportsMade 0b000000001 s t ∧ t = { s with mlc := t.mlc, clp := t.clp }) ∧
    (1 ≤ id → id ≤ 255 → s.mlc.markers.find? (fun q => q.id = id) = some k → k.state ≠ .active →
      exec (.removeMarker tag id) s = .next (withReply ⟨0x99, tag, [0x00]⟩ { s with mlc := { s.mlc with
        markers := s.mlc.markers.filter (fun q => q.id ≠ id)
        lastEvent := ⟨.removed, k.id, k.m, k.lead, k.trail, k.origin⟩
        eventCount := if s.mlc.eventCount < 65535 then s.mlc.eventCount + 1 else 0 } })) ∧
    (first ≤ 15 → 1 ≤ count → count ≤ 8 →
      exec (.getMarkers tag first count) s = .next (withReply ⟨0x9A, tag, 0x00 ::
        (bytesBE 1 s.mlc.markers.length ++ bytesBE 1 s.mlc.nextId ++ bytesBE 2 s.mlc.lost ++ bytesBE 2 s.mlc.eventCount ++
        [(if s.mlc.causes.manual then 0x01 else 0) + (if s.mlc.causes.plan then 0x02 else 0) +
          (if s.mlc.causes.window then 0x04 else 0)] ++ [if s.lifted then 0x01 else 0x00] ++
        (match s.mlc.returnDepth with
          | some d => 0x01 :: bytesBE 2 d
          | none => [0x00, 0x00, 0x00]) ++
        bytesBE 1 (min count (s.mlc.markers.length - first) : Nat) ++
        ((s.mlc.markers.drop first).take count).flatMap (fun q =>
          bytesBE 1 q.id ++ bytesBE 4 q.m ++ bytesBE 2 q.lead ++ bytesBE 2 q.trail ++ bytesBE 1 q.origin.code ++
          bytesBE 1 q.state.code))⟩ s))

/-- What a trip at chainage `m` does in MLC (R83, R84), on a list in chainage order. A marker at `m`, else the one of greatest
chainage whose window holds `m`, has its trail lengthened to reach `m` + auto trail, 20,000 at most; one that reaches it already
absorbs the trip. With no such marker a SCANNER marker with the auto lead and the auto trail is made, under a free id; on a full
list the detection is counted as lost. WINDOW is formed again, with the return depth captured when the set leaves empty (R91), the
event is counted and recorded, and a MARKER report is queued, with STATE for a changed set. -/
def Obligations.TripTaken : Prop :=
  ∀ (s : State) (m : Int), s.mlc.markers.Pairwise (fun p q => p.m < q.m) →
    (∀ k tr, k ∈ s.mlc.markers →
      (k.m = m ∨ ((∀ q ∈ s.mlc.markers, q.m ≠ m) ∧ k.m - k.lead ≤ m ∧ m < k.m + k.trail ∧
        ∀ q ∈ s.mlc.markers, q.m - q.lead ≤ m → m < q.m + q.trail → q.m ≤ k.m)) →
      tr = min 20000 (max k.trail (m + s.tun.autoTrail - k.m)) →
      (tr = k.trail → takeTrip m s = s) ∧
      (tr ≠ k.trail → ∃ t, takeTrip m s = t ∧
        t.mlc = { s.mlc with
          markers := s.mlc.markers.map (fun q => if q.id = k.id then { k with
            trail := tr
            state := if s.drum < k.m - k.lead then .armed else if s.drum < k.m + tr then .active else .passed } else q)
          lastEvent := ⟨.extended, k.id, k.m, k.lead, tr, k.origin⟩
          eventCount := if s.mlc.eventCount < 65535 then s.mlc.eventCount + 1 else 0
          causes := { s.mlc.causes with window := !s.eStop && t.mlc.markers.any (fun q => q.state = .active) }
          returnDepth := t.mlc.returnDepth } ∧
        (s.clp.enabled.getLsbD 5 = true → t.clp.waiting.getLsbD 5 = true) ∧
        returnDepthFormed s t ∧ reportsMade 0b000100001 s t ∧ t = { s with mlc := t.mlc, clp := t.clp })) ∧
    ((∀ q ∈ s.mlc.markers, q.m ≠ m ∧ (m < q.m - q.lead ∨ q.m + q.trail ≤ m)) → s.mlc.markers.length < 16 →
      1 ≤ s.mlc.nextId → s.mlc.nextId ≤ 255 →
      ∃ (t : State) (new : Marker), takeTrip m s = t ∧ new.m = m ∧ new.lead = s.tun.autoLead ∧ new.trail = s.tun.autoTrail ∧
        new.origin = .scanner ∧ (∀ q ∈ s.mlc.markers, q.id ≠ new.id) ∧
        ((∀ q ∈ s.mlc.markers, q.id ≠ s.mlc.nextId) → new.id = s.mlc.nextId) ∧
        new.state = (if s.drum < m - new.lead then .armed else if s.drum < m + new.trail then .active else .passed) ∧
        t.mlc.markers.Perm (new :: s.mlc.markers) ∧ t.mlc.markers.Pairwise (fun p q => p.m < q.m) ∧
        t.mlc = { s.mlc with
          markers := t.mlc.markers, nextId := if new.id < 255 then new.id + 1 else 1
          lastEvent := ⟨.created, new.id, m, new.lead, new.trail, .scanner⟩
          eventCount := if s.mlc.eventCount < 65535 then s.mlc.eventCount + 1 else 0
          causes := { s.mlc.causes with
            window := !s.eStop && (new :: s.mlc.markers).any (fun q => q.state = .active) }
          returnDepth := t.mlc.returnDepth } ∧
        (s.clp.enabled.getLsbD 5 = true → t.clp.waiting.getLsbD 5 = true) ∧
        returnDepthFormed s t ∧ reportsMade 0b000100001 s t ∧ t = { s with mlc := t.mlc, clp := t.clp }) ∧
    ((∀ q ∈ s.mlc.markers, q.m ≠ m ∧ (m < q.m - q.lead ∨ q.m + q.trail ≤ m)) → 16 ≤ s.mlc.markers.length →
      takeTrip m s = { s with
        mlc := { s.mlc with
          lost := if s.mlc.lost < 65535 then s.mlc.lost + 1 else 65535
          lastEvent := ⟨.lost, 0, m, 0, 0, .scanner⟩
          eventCount := if s.mlc.eventCount < 65535 then s.mlc.eventCount + 1 else 0 }
        clp := { s.clp with waiting := s.clp.waiting ||| (0b000100000 &&& s.clp.enabled) } })

/-- LIFT and RETURN with a channel in AUTO (R85 to R88, R91): MANUAL enters and leaves; entering an empty set with no channel
RETURNING it captures the d_cmd of the SLOPE side, if there is one. -/
def Obligations.LiftAndReturn : Prop :=
  ∀ (s : State) (tag : Byte), s.linkFree → s.chL.state = .auto ∨ s.chR.state = .auto →
    (∃ t, exec (.lift tag) s = .next (withReply ⟨0x9B, tag, [0x00]⟩ t) ∧
      t.lifted = true ∧
      t.mlc = { s.mlc with
        causes := { s.mlc.causes with manual := true }
        returnDepth :=
          if s.mlc.causes = ⟨false, false, false⟩ ∧ s.chL.returning = false ∧ s.chR.returning = false then
            (if s.chL.mode = .slope then some s.chL.dCmd
            else if s.chR.mode = .slope then some s.chR.dCmd else none)
          else s.mlc.returnDepth } ∧
      reportsMade 0b000000001 s t ∧ t = { s with mlc := t.mlc, clp := t.clp }) ∧
    (s.mlc.causes.manual = true →
      ∃ t, exec (.returnDrum tag) s = .next (withReply ⟨0x9C, tag, [0x00]⟩ t) ∧
        t.lifted = (s.mlc.causes.plan || s.mlc.causes.window) ∧
        t.mlc = { s.mlc with causes := { s.mlc.causes with manual := false } } ∧
        t.clp = { s.clp with waiting := s.clp.waiting ||| (0b000000001 &&& s.clp.enabled) } ∧
        t = { s with mlc := t.mlc, clp := t.clp })

/-! ### The profile scanner (chapter 5) -/

/-- SCAN_TRIGGER, IDLE_TRIGGER and LINE_TIMEOUT (R96, R99, R100, R102). The issued trigger is no longer due (log entry 5). -/
def Obligations.ScanTriggers : Prop :=
  ∀ (s : State) (c ds : Int) (w : Awaited),
    (s.spr.enable = false →
      exec (.scanTrigger c) s = .next (startTx { s with trc := { s.trc with scanDue := s.trc.scanDue.erase c } })) ∧
    (s.spr.enable = true → s.spr.awaited = some w →
      exec (.scanTrigger c) s = .next (startTx { s with
        trc := { s.trc with scanDue := s.trc.scanDue.erase c }
        spr := { s.spr with counters := { s.spr.counters with
          missed := if s.spr.counters.missed < 4294967295 then s.spr.counters.missed + 1 else 4294967295 } } })) ∧
    (s.spr.enable = true → s.spr.awaited = none → s.geo.ds = some ds →
      exec (.scanTrigger c) s = .next (startTx { s with
        trc := { s.trc with scanDue := s.trc.scanDue.erase c }
        spr := { s.spr with
          sentFrame := some ⟨0x50, 0, [BitVec.ofNat 8 s.spr.trigNumber]⟩
          awaited := some ⟨s.spr.trigNumber, clampChainage (c + ds), .newGround, 0⟩
          trigNumber := if s.spr.trigNumber < 255 then s.spr.trigNumber + 1 else 0, idle := 0
          counters := { s.spr.counters with
            sent := if s.spr.counters.sent < 4294967295 then s.spr.counters.sent + 1 else 4294967295 } } })) ∧
    (s.spr.enable = true → s.spr.awaited = none → s.geo.ds = some ds →
      exec .idleTrigger s = .next (startTx { s with
        spr := { s.spr with
          sentFrame := some ⟨0x50, 0, [BitVec.ofNat 8 s.spr.trigNumber]⟩
          awaited := some ⟨s.spr.trigNumber, clampChainage (s.chainage + ds), .idle, 0⟩
          trigNumber := if s.spr.trigNumber < 255 then s.spr.trigNumber + 1 else 0, idle := 0
          counters := { s.spr.counters with
            sent := if s.spr.counters.sent < 4294967295 then s.spr.counters.sent + 1 else 4294967295 } } })) ∧
    (s.spr.awaited = some w →
      exec .lineTimeout s = .next (startTx { s with spr := { s.spr with
        awaited := none
        counters := { s.spr.counters with
          timedOut := if s.spr.counters.timedOut < 4294967295 then s.spr.counters.timedOut + 1 else 4294967295 } } }))

/-- The bytes of a LINE frame received in HUNT (R95, R96, R101, R103): with its number awaited the line takes the trigger's
scan chainage and mark and its 64 points into the buffer, or is dropped by a full buffer and sets SCAN_OVERRUN; else it is stray. A
frame of another kind, a LINE frame of another payload length, one whose CRC does not match and a length byte above 248 are discarded
and counted as bad, and a line that is awaited stays awaited (R95). -/
def Obligations.LineArrivalTaken : Prop :=
  (∀ (s : State) (tag : Byte) (payload : List Byte) (pts : List Point), payload.length = 193 → s.spr.rx = .hunt →
    pts = (List.range 64).map (fun i =>
      ⟨256 * (payload.getD (1 + 3 * i) 0).toNat + (payload.getD (2 + 3 * i) 0).toNat,
        (payload.getD (3 + 3 * i) 0).toNat⟩) →
    (∀ w, s.spr.awaited = some w → w.number = (payload.getD 0 0).toNat → s.spr.buffer.length < 2 →
      exec (.lineArrival (Frame.wire ⟨0x51, tag, payload⟩)) s = .next (startTx { s with spr := { s.spr with
        awaited := none, buffer := s.spr.buffer ++ [⟨w.number, w.scanAt, w.mark, pts⟩] } })) ∧
    (∀ w, s.spr.awaited = some w → w.number = (payload.getD 0 0).toNat → 2 ≤ s.spr.buffer.length →
      ∃ t, exec (.lineArrival (Frame.wire ⟨0x51, tag, payload⟩)) s = .next (startTx t) ∧
        t.spr = { s.spr with
          awaited := none
          counters := { s.spr.counters with
            overruns := if s.spr.counters.overruns < 4294967295 then s.spr.counters.overruns + 1 else 4294967295 } } ∧
        t.cst.flags = s.cst.flags ||| 0x400 ∧ reportsMade 0b000000100 s t ∧
        t = { s with spr := t.spr, cst := t.cst, clp := t.clp }) ∧
    ((∀ w, s.spr.awaited = some w → w.number ≠ (payload.getD 0 0).toNat) →
      exec (.lineArrival (Frame.wire ⟨0x51, tag, payload⟩)) s = .next (startTx { s with spr := { s.spr with
        counters := { s.spr.counters with
          stray := if s.spr.counters.stray < 4294967295 then s.spr.counters.stray + 1 else 4294967295 } } }))) ∧
  (∀ (s t : State) (f : Frame) (c : List Byte) (len : Byte), s.spr.rx = .hunt → f.payload.length ≤ 248 →
    t = { s with spr := { s.spr with
      counters := { s.spr.counters with
        bad := if s.spr.counters.bad < 4294967295 then s.spr.counters.bad + 1 else 4294967295 } } } →
    (f.kind ≠ 0x51 ∨ f.payload.length ≠ 193 → exec (.lineArrival (Frame.wire f)) s = .next (startTx t)) ∧
    (c.length = 2 → c ≠ crcBytes (crcOf (BitVec.ofNat 8 f.payload.length :: f.kind :: f.tag :: f.payload)) →
      exec (.lineArrival (0x5A :: (BitVec.ofNat 8 f.payload.length :: f.kind :: f.tag :: f.payload ++ c))) s =
        .next (startTx t)) ∧
    (248 < len.toNat → exec (.lineArrival [0x5A, len]) s = .next (startTx t)))

/-- The line completion (R104, R105, R107 to R111): the oldest line leaves the buffer and becomes the latest cell record with its
sixteen cells. The line is fouled when every unmasked cell is VOID, or when F % of the others lie within Tf of a line average
below the near-range limit (R109); it is low-return when the average strength of its unmasked points is below the minimum (R110,
log entry 42). Each side's ski surface is the mean of its cells that are unmasked, not VOID and not standing out, and is kept when
there is none (R107). The judgements move the condition by their run counts; an idle line is not handed to CHD. -/
def Obligations.LineCompletionTaken : Prop :=
  ∀ (s : State) (l : Line) (rest : List Line), s.spr.buffer = l :: rest →
    ∃ t r, exec .lineCompletion s = .next (startTx t) ∧
      r.number = l.number ∧ r.scanAt = l.scanAt ∧ r.mark = l.mark ∧
      r.cells.length = 16 ∧
      (∀ k c good, r.cells[k]? = some c →
        good = ((l.points.drop (4 * k)).take 4).filter (fun q =>
          decide (s.tun.pointMin ≤ q.strength) && decide (500 ≤ q.range) && decide (q.range ≤ 20000)) →
        c.valid = good.length ∧ c.masked = s.chd.mask.getLsbD k ∧
        c.signature = (if 2 ≤ good.length then some ((good.map (fun q => q.range)).sum / good.length) else none)) ∧
      (∀ seen : List Nat, seen = (r.cells.filter (fun c => !c.masked)).filterMap (fun c => c.signature) →
        (r.fouled = true ↔ seen = [] ∨
          (s.tun.fPercent * seen.length ≤
              100 * ((seen.filter (fun (g : Nat) =>
                decide (|(g : Int) - ((seen.sum / seen.length : Nat) : Int)| ≤ s.tun.tf))).length : Int) ∧
            ((seen.sum / seen.length : Nat) : Int) < s.tun.nearLimit)) ∧
        (seen ≠ [] → r.lineAvg = seen.sum / seen.length ∧ t.freeUsed = s.freeUsed)) ∧
      (∀ pts : List Point,
        pts = (List.range 16).flatMap (fun k => if s.chd.mask.getLsbD k then [] else (l.points.drop (4 * k)).take 4) →
        r.strength = (pts.map (fun q => q.strength)).sum / pts.length ∧
        (r.low = true ↔ (((pts.map (fun q => q.strength)).sum / pts.length : Nat) : Int) < s.tun.lineMin)) ∧
      (∀ (x : Side) (range : CellRange) (used : List Nat), range = (if x = .L then s.tun.skiCellsL else s.tun.skiCellsR) →
        used = (((r.cells.drop range.first).take (range.last + 1 - range.first)).filter
          (fun c => !c.masked && !c.standing)).filterMap (fun c => c.signature) →
        t.ski x = (if used = [] then s.ski x else some ⟨((used.sum / used.length : Nat) : Int), s.now⟩)) ∧
      (r.fouled = s.spr.fouled → t.spr.fouled = s.spr.fouled ∧ t.spr.fouledRun = 0) ∧
      (r.fouled ≠ s.spr.fouled → s.tun.nf ≤ (s.spr.fouledRun : Int) + 1 →
        t.spr.fouled = r.fouled ∧ t.spr.fouledRun = 0) ∧
      (r.fouled ≠ s.spr.fouled → (s.spr.fouledRun : Int) + 1 < s.tun.nf →
        t.spr.fouled = s.spr.fouled ∧ t.spr.fouledRun = s.spr.fouledRun + 1) ∧
      (r.low = s.spr.lowReturn → t.spr.lowReturn = s.spr.lowReturn ∧ t.spr.lowRun = 0) ∧
      (r.low ≠ s.spr.lowReturn → s.tun.nl ≤ (s.spr.lowRun : Int) + 1 → t.spr.lowReturn = r.low ∧ t.spr.lowRun = 0) ∧
      (r.low ≠ s.spr.lowReturn → (s.spr.lowRun : Int) + 1 < s.tun.nl →
        t.spr.lowReturn = s.spr.lowReturn ∧ t.spr.lowRun = s.spr.lowRun + 1) ∧
      (t.spr.fouled ≠ s.spr.fouled ∨ t.spr.lowReturn ≠ s.spr.lowReturn → s.clp.enabled.getLsbD 6 = true →
        t.clp.waiting.getLsbD 6 = true) ∧
      (l.mark = .idle → t.chd = s.chd ∧ t.mlc = s.mlc ∧ ∀ c ∈ r.cells, c.standing = false) ∧
      t.spr = { s.spr with
        buffer := rest, latest := some r, skiL := t.spr.skiL, skiR := t.spr.skiR, fouled := t.spr.fouled
        lowReturn := t.spr.lowReturn, fouledRun := t.spr.fouledRun, lowRun := t.spr.lowRun
        counters := { s.spr.counters with completed :=
          if s.spr.counters.completed < 4294967295 then s.spr.counters.completed + 1 else 4294967295 } } ∧
      t.chd.mask = s.chd.mask ∧ t.chd.mode = s.chd.mode ∧ reportsMade 0b001100001 s t ∧
      t = { s with spr := t.spr, chd := t.chd, mlc := t.mlc, clp := t.clp, freeUsed := t.freeUsed }

/-- The hand-over of a new-ground line (R116 to R118, R123, R126 to R128): under a suspension cause the detector returns to
QUIET with an empty history; else a line that follows on, and the first line after a restart or a suspension, moves the run state
by whether it detects, a trip counts, keeps the run start and hands it to MLC, and the line enters the history. -/
def Obligations.DetectorHandOver : Prop :=
  ∀ (s : State) (l : Line) (rest : List Line) (dd ds : Int) (detects : Prop), s.spr.buffer = l :: rest →
    l.mark = .newGround → s.geo.dd = some dd → s.geo.ds = some ds →
    (s.spr.fouled = true ∨ s.spr.lowReturn = true ∨ ds ≤ dd →
      ∃ t, exec .lineCompletion s = .next (startTx t) ∧ t.chd.det = .quiet ∧ t.chd.n = 0 ∧ t.chd.runStart = none ∧
        t.chd.history = [] ∧ t.chd.lastAt = none ∧ t.chd.trips = s.chd.trips ∧ t.mlc = s.mlc ∧
        (t.chd.condition = true ↔ s.spr.fouled = true ∨ s.spr.lowReturn = true) ∧ (t.chd.geometry = true ↔ ds ≤ dd) ∧
        (s.chd.mode = .held → t.chd.held = s.chd.held) ∧ (s.chd.mode ≠ .held → t.chd.held = none)) ∧
    (s.spr.fouled = false → s.spr.lowReturn = false → dd < ds →
      (∀ e, s.chd.lastAt = some e → e < l.scanAt ∧ l.scanAt ≤ e + 8 * s.tun.scanPitch) →
      (detects ↔ (s.lookup l.scanAt).detect = true ∧
        s.tun.nc ≤ (((s.evaluateLine l.scanAt l.points).filter id).length : Int)) →
      ∃ t, exec .lineCompletion s = .next (startTx t) ∧
        t.chd.history.length = min 32 (s.chd.history.length + 1) ∧
        t.chd.history.tail = s.chd.history.take 31 ∧ t.chd.lastAt = some l.scanAt ∧
        t.chd.condition = false ∧ t.chd.geometry = false ∧
        (s.chd.det = .quiet → ¬detects → t.chd.det = .quiet ∧ t.mlc = s.mlc) ∧
        (s.chd.det = .quiet → detects → 1 < s.tun.nt →
          t.chd.det = .counting ∧ t.chd.n = 1 ∧ t.chd.runStart = some l.scanAt ∧ t.mlc = s.mlc) ∧
        (s.chd.det = .quiet → detects → s.tun.nt ≤ 1 →
          t.chd.det = .tripped ∧ t.chd.lastTrip = some l.scanAt ∧ t.chd.quiet = 0 ∧ t.mlc = (takeTrip l.scanAt s).mlc) ∧
        (s.chd.det = .counting → ¬detects → t.chd.det = .quiet ∧ t.chd.n = 0 ∧ t.chd.runStart = none) ∧
        (s.chd.det = .counting → detects → (s.chd.n : Int) + 1 < s.tun.nt →
          t.chd.det = .counting ∧ t.chd.n = s.chd.n + 1 ∧ t.chd.runStart = s.chd.runStart) ∧
        (∀ start, s.chd.det = .counting → detects → s.tun.nt ≤ (s.chd.n : Int) + 1 → s.chd.runStart = some start →
          t.chd.det = .tripped ∧ t.chd.lastTrip = some start ∧ t.chd.quiet = 0 ∧
          t.chd.trips = (if s.chd.trips < 65535 then s.chd.trips + 1 else 65535) ∧ t.mlc = (takeTrip start s).mlc) ∧
        (s.chd.det = .tripped → detects → t.chd.det = .tripped ∧ t.chd.quiet = 0 ∧ t.mlc = s.mlc) ∧
        (s.chd.det = .tripped → ¬detects → (s.chd.quiet : Int) + 1 < s.tun.nt →
          t.chd.det = .tripped ∧ t.chd.quiet = s.chd.quiet + 1) ∧
        (s.chd.det = .tripped → ¬detects → s.tun.nt ≤ (s.chd.quiet : Int) + 1 →
          t.chd.det = .quiet ∧ t.chd.quiet = 0 ∧ t.chd.n = 0 ∧ t.chd.runStart = none))

/-- The reference of each mode, the cell test and the continuity check (R117 to R120, R124, R125). ROLLING takes the k-th newest
entry of the history, STEPPED and HELD the held reference. A cell stands out when DETECT is yes at the scan chainage, the cell is not
masked, the reference has its signature, and at least Ns of its valid points differ from that by more than T. A line that follows on
is marked against the reference and enters the history; in STEPPED the held reference is refreshed when the step count reaches k. A
line that does not follow on restarts the history: in ROLLING and STEPPED no cell stands out and the detector is QUIET, and in HELD
the held reference is kept and used. -/
def Obligations.DetectorReferences : Prop :=
  (∀ s : State,
    (s.chd.mode = .rolling → 1 ≤ s.tun.k → s.reference = (s.chd.history[s.tun.k.toNat - 1]?).map (fun e => e.sigs)) ∧
    (s.chd.mode = .rolling → (s.chd.history.length : Int) < s.tun.k → s.reference = none) ∧
    (s.chd.mode ≠ .rolling → s.reference = s.chd.held.map (fun r => r.sigs))) ∧
  (∀ (s : State) (c : Int) (points : List Point), (s.evaluateLine c points).length = 16 ∧
    ∀ k b, (s.evaluateLine c points)[k]? = some b →
      (b = true ↔ (s.lookup c).detect = true ∧ s.chd.mask.getLsbD k = false ∧
        ∃ ref sig, s.reference = some ref ∧ ref[k]? = some (some sig) ∧
          s.tun.ns ≤ ((((points.drop (4 * k)).take 4).filter (fun q =>
            decide (s.tun.pointMin ≤ q.strength) && decide (500 ≤ q.range) && decide (q.range ≤ 20000) &&
            decide (s.tun.t < |(q.range : Int) - (sig : Int)|))).length : Int))) ∧
  (∀ (s : State) (l : Line) (rest : List Line) (dd ds : Int), s.spr.buffer = l :: rest → l.mark = .newGround →
    s.geo.dd = some dd → s.geo.ds = some ds → dd < ds → s.spr.fouled = false → s.spr.lowReturn = false → 1 ≤ s.tun.nc →
    ∃ t r, exec .lineCompletion s = .next (startTx t) ∧ t.spr.latest = some r ∧
      t.chd.history.head? = some ⟨r.cells.map (fun c => c.signature), l.scanAt⟩ ∧ t.chd.lastAt = some l.scanAt ∧
      ((∀ e, s.chd.lastAt = some e → e < l.scanAt ∧ l.scanAt ≤ e + 8 * s.tun.scanPitch) →
        r.cells.map (fun c => c.standing) = s.evaluateLine l.scanAt l.points ∧
        t.chd.history.tail = s.chd.history.take 31 ∧
        (s.chd.mode ≠ .stepped → t.chd.held = s.chd.held ∧ t.chd.stepCount = s.chd.stepCount) ∧
        (s.chd.mode = .stepped → s.tun.k ≤ (s.chd.stepCount : Int) + 1 →
          t.chd.held = some ⟨r.cells.map (fun c => c.signature), l.number, l.scanAt⟩ ∧ t.chd.stepCount = 0) ∧
        (s.chd.mode = .stepped → (s.chd.stepCount : Int) + 1 < s.tun.k →
          t.chd.held = s.chd.held ∧ t.chd.stepCount = s.chd.stepCount + 1)) ∧
      (∀ e, s.chd.lastAt = some e → l.scanAt ≤ e ∨ e + 8 * s.tun.scanPitch < l.scanAt →
        t.chd.history.tail = [] ∧
        (s.chd.mode ≠ .held → (∀ c ∈ r.cells, c.standing = false) ∧ t.chd.det = .quiet ∧ t.chd.n = 0 ∧
          t.chd.quiet = 0 ∧ t.chd.runStart = none ∧ t.chd.trips = s.chd.trips ∧ t.mlc = s.mlc) ∧
        (s.chd.mode = .rolling → t.chd.held = none ∧ t.chd.stepCount = 0) ∧
        (s.chd.mode = .stepped → 1 < s.tun.k → t.chd.held = none ∧ t.chd.stepCount = 1) ∧
        (s.chd.mode = .stepped → s.tun.k ≤ 1 →
          t.chd.held = some ⟨r.cells.map (fun c => c.signature), l.number, l.scanAt⟩ ∧ t.chd.stepCount = 0) ∧
        ∀ detects : Prop, s.chd.mode = .held →
          (detects ↔ (s.lookup l.scanAt).detect = true ∧
            s.tun.nc ≤ (((s.evaluateLine l.scanAt l.points).filter id).length : Int)) →
          t.chd.held = s.chd.held ∧ t.chd.stepCount = s.chd.stepCount ∧
          r.cells.map (fun c => c.standing) = s.evaluateLine l.scanAt l.points ∧
          (¬detects → t.chd.det = .quiet ∧ t.chd.n = 0 ∧ t.chd.quiet = 0 ∧ t.chd.runStart = none ∧ t.mlc = s.mlc) ∧
          (detects → 1 < s.tun.nt →
            t.chd.det = .counting ∧ t.chd.n = 1 ∧ t.chd.runStart = some l.scanAt ∧ t.mlc = s.mlc) ∧
          (detects → s.tun.nt ≤ 1 →
            t.chd.det = .tripped ∧ t.chd.lastTrip = some l.scanAt ∧ t.mlc = (takeTrip l.scanAt s).mlc)))

/-- SCAN_ENABLE on and off, SET_CELL_MASK, GET_PROFILE and TAKE_REFERENCE, accepted (R97, R98, R106, R112, R113, R121, R131):
switching changes the named state, queues a SCANNER report and replies OK; a request that finds the scanner so already changes
nothing. The bytes of GET_PROFILE rest on R202 and on log entries 12, 15 and 18. -/
def Obligations.ScannerRequests : Prop :=
  ∀ (s : State) (tag : Byte) (cells : BitVec 16) (r : CellRecord), s.linkFree →
    (s.spr.enable = false → s.geo.ds ≠ none → s.geo.w ≠ none →
      exec (.scanEnableOn tag) s = .next (withReply ⟨0xA8, tag, [0x00]⟩ { s with
        spr := { s.spr with
          enable := true, fouled := false, lowReturn := false, fouledRun := 0, lowRun := 0, idle := 0 }
        clp := { s.clp with waiting := s.clp.waiting ||| (0b001000000 &&& s.clp.enabled) } })) ∧
    (s.spr.enable = true → exec (.scanEnableOn tag) s = .next (withReply ⟨0xA8, tag, [0x00]⟩ s)) ∧
    (s.spr.enable = true →
      exec (.scanEnableOff tag) s = .next (withReply ⟨0xA8, tag, [0x00]⟩ { s with
        spr := { s.spr with
          enable := false, awaited := none, idle := 0, buffer := [], latest := none, skiL := none, skiR := none
          fouled := false, lowReturn := false, fouledRun := 0, lowRun := 0 }
        chd := { s.chd with
          history := [], lastAt := none, held := none, stepCount := 0, det := .quiet, n := 0, quiet := 0
          runStart := none, condition := false, geometry := false }
        clp := { s.clp with waiting := s.clp.waiting ||| (0b001000000 &&& s.clp.enabled) } })) ∧
    (s.spr.enable = false → exec (.scanEnableOff tag) s = .next (withReply ⟨0xA8, tag, [0x00]⟩ s)) ∧
    (cells ≠ 0xFFFF → exec (.setCellMask tag cells) s =
      .next (withReply ⟨0xA9, tag, [0x00]⟩ { s with chd := { s.chd with mask := cells } })) ∧
    exec (.getProfile tag) s = .next (withReply ⟨0xAA, tag, 0x00 ::
      ([if s.spr.enable then 0x01 else 0x00] ++ fCondition s.spr ++ bytesBE 1 s.spr.fouledRun ++ bytesBE 1 s.spr.lowRun ++
      (match s.spr.awaited with
        | some w => 0x01 :: bytesBE 1 w.number
        | none => [0x00, 0x00]) ++ bytesBE 1 s.spr.buffer.length ++
      [Side.L, Side.R].flatMap (fun x =>
        (match s.ski x with
          | some k => 0x01 :: (bytesBE 2 k.surface ++ bytesBE 2 (min 65535 (s.now - k.instant) : Nat))
          | none => List.replicate 5 0x00) ++ [if s.skiValid x then 0x01 else 0x00]) ++
      (match s.spr.latest with
        | none => List.replicate 108 0x00
        | some q => 0x01 :: (bytesBE 1 q.number ++ bytesBE 4 q.scanAt ++ bytesBE 1 q.mark.code ++
          [if q.fouled then 0x01 else 0x00] ++ [if q.low then 0x01 else 0x00] ++ bytesBE 2 q.lineAvg ++ bytesBE 1 q.strength ++
          q.cells.flatMap (fun c =>
            (match c.signature with
              | some g => 0x01 :: bytesBE 2 g
              | none => [0x00, 0x00, 0x00]) ++ bytesBE 1 c.valid ++ [if c.masked then 0x01 else 0x00] ++
            [if c.standing then 0x01 else 0x00]))) ++
      bytesBE 2 s.chd.mask.toNat ++ bytesBE 4 s.spr.counters.sent ++ bytesBE 4 s.spr.counters.completed ++
      bytesBE 4 s.spr.counters.missed ++ bytesBE 4 s.spr.counters.timedOut ++ bytesBE 4 s.spr.counters.stray ++
      bytesBE 4 s.spr.counters.bad ++ bytesBE 4 s.spr.counters.overruns)⟩ s) ∧
    (∀ p : Spr, fCondition p = [if p.enable = false then 0x01 else if p.fouled = false ∧ p.lowReturn = false then 0x02 else
      (if p.fouled then 0x04 else 0) + (if p.lowReturn then 0x08 else 0)]) ∧
    (s.tun.refMode ≠ .rolling → s.spr.latest = some r →
      exec (.takeReference tag) s = .next (withReply
        ⟨0xAB, tag, 0x00 :: (bytesBE 1 r.number ++ bytesBE 4 r.scanAt ++ bytesBE 1 r.mark.code)⟩
        { s with chd := { s.chd with
          held := some ⟨r.cells.map (fun c => c.signature), r.number, r.scanAt⟩
          stepCount := if s.tun.refMode = .stepped then 0 else s.chd.stepCount } }))

/-! ### Computation status (chapter 7) -/

/-- CLEAR_FLAGS (R135): a set with a member outside the 13 flags is refused with RANGE; else the named flags become clear, the
others stay, and the reply carries the flag set and ANY as they then stand. -/
def Obligations.ClearFlags : Prop :=
  ∀ (s : State) (tag : Byte) (flags : BitVec 16) (left : BitVec 13), s.linkFree →
    left = s.cst.flags &&& ~~~(flags.setWidth 13) →
    exec (.clearFlags tag flags) s = .next
      (if flags.toNat < 8192 then
        withReply ⟨0xB0, tag, 0x00 :: (bytesBE 2 left.toNat ++ [if left = 0 then 0x00 else 0x01])⟩
          { s with cst := { s.cst with flags := left } }
      else withReply ⟨0xB0, tag, [0x12]⟩ s)

/-- ARM_FAULT, GET_FAULT and GET_LOADING, accepted (R137, R140, R146, R148, R153, R156, R202), with the values of Hc and of the two
near volumes. The ten zero bytes of an empty locus are log entry 15, and the widths of Hc, of the last parcel and of the near volumes
log entries 15 to 17. -/
def Obligations.StatusRequests : Prop :=
  ∀ (s : State) (tag : Byte) (arm : Bool) (first count : Nat), s.linkFree →
    exec (.armFault tag (if arm then 1 else 0)) s = .next (withReply
      ⟨0xB1, tag, 0x00 :: ([if arm then 0x01 else 0x00] ++ bytesBE 2 s.cst.captures ++ bytesBE 2 s.cst.flags.toNat)⟩
      { s with cst := { s.cst with armed := arm } }) ∧
    exec (.getFault tag) s = .next (withReply ⟨0xB2, tag, 0x00 ::
      (bytesBE 2 s.cst.flags.toNat ++ [if s.cst.flags = 0 then 0x00 else 0x01] ++ [if s.cst.armed then 0x01 else 0x00] ++
      (match s.cst.locus with
        | none => List.replicate 11 0x00
        | some f => [0x01] ++ bytesBE 1 f.flag.code ++ bytesBE 1 f.source.code ++ bytesBE 4 f.drum ++ bytesBE 4 f.time) ++
      bytesBE 2 s.cst.captures ++ bytesBE 4 (s.now % 4294967296 : Nat))⟩ s) ∧
    (first ≤ 31 → 1 ≤ count → count ≤ 8 →
      exec (.getLoading tag first count) s = .next (withReply ⟨0xB9, tag, 0x00 ::
        (bytesBE 8 s.load.vc ++ bytesBE 8 s.load.vd ++ bytesBE 8 s.load.vw ++ bytesBE 8 s.load.vs ++ bytesBE 8 s.load.vx ++
        bytesBE 8 s.beltContent ++
        (match s.hc with
          | some h => 0x01 :: bytesBE 3 h
          | none => [0x00, 0x00, 0x00, 0x00]) ++ bytesBE 3 s.load.lastParcel ++
        bytesBE 8 s.nearDischarge ++ bytesBE 8 s.nearLoading ++ bytesBE 1 s.load.parcels.length ++
        bytesBE 1 (min count (s.load.parcels.length - first) : Nat) ++
        ((s.load.parcels.drop first).take count).flatMap (fun q => bytesBE 8 q.vol ++ bytesBE 2 q.pos))⟩ s)) ∧
    (∀ lb cb, s.geo.lb = some lb → s.geo.cb = some cb → s.hc = some (Int.tdiv (cb * lb) 1000) ∧
      s.nearDischarge = ((s.load.parcels.filter (fun q => decide (lb - s.tun.lt ≤ (q.pos : Int)))).map (fun q => q.vol)).sum) ∧
    (s.geo.lb = none ∨ s.geo.cb = none → s.hc = none) ∧
    s.nearLoading = ((s.load.parcels.filter (fun q => decide ((q.pos : Int) < s.tun.lp))).map (fun q => q.vol)).sum ∧
    s.beltContent = (s.load.parcels.map (fun q => q.vol)).sum

/-- An owner sets a flag (R132, R138, R183): a write refused by the envelope lock sets LOCKED_WRITE. A flag already set changes
nothing; a change with the arm down is the flag alone; a change with the arm up is captured once: locus, count, FAULT report, arm
down. -/
def Obligations.FaultCapture : Prop :=
  ∀ (s : State) (tag : Byte) (arg : Nat), s.linkFree → s.mpr.lock = true → arg ≤ 1 →
    (s.cst.flags.getLsbD 12 = true → exec (.setCalOpen tag arg) s = .next (withReply ⟨0xCB, tag, [0x14]⟩ s)) ∧
    (s.cst.flags.getLsbD 12 = false → s.cst.armed = false →
      exec (.setCalOpen tag arg) s = .next (withReply ⟨0xCB, tag, [0x14]⟩
        { s with cst := { s.cst with flags := s.cst.flags ||| 0x1000 } })) ∧
    (s.cst.flags.getLsbD 12 = false → s.cst.armed = true →
      exec (.setCalOpen tag arg) s = .next (withReply ⟨0xCB, tag, [0x14]⟩ { s with
        cst := ⟨s.cst.flags ||| 0x1000, false, some ⟨.lockedWrite, .mpr, s.drum, s.now % 4294967296⟩,
          if s.cst.captures < 65535 then s.cst.captures + 1 else 0⟩
        clp := { s.clp with waiting := s.clp.waiting ||| (0b000000100 &&& s.clp.enabled) } }))

/-! ### Volume metering and belt tracking (chapter 8) -/

/-- A volume step (R142 to R144, R147, R148, R153, R169): nothing is metered without W, with no depth, or beyond the counter
limit; else `p` cm³ is counted in Vc and goes to the windrow, or to the belt when the disposition loads and the belt is
commissioned; a new parcel makes the topping test. An issued step is no longer due (log entry 5). -/
def Obligations.VolumeStepMetered : Prop :=
  ∀ (s : State) (w p : Int),
    (s.geo.w = none → exec .volumeStep s = .next (startTx { s with
      trc := { s.trc with volumeDue := s.trc.volumeDue - 1 }, load := { s.load with lastParcel := 0 } })) ∧
    (s.geo.w = some w → p = Int.tdiv ((max s.chL.dMeas 0 + max s.chR.dMeas 0) * w * s.tun.swell) 20000 →
      (p = 0 → exec .volumeStep s = .next (startTx { s with
        trc := { s.trc with volumeDue := s.trc.volumeDue - 1 }, load := { s.load with lastParcel := 0 } })) ∧
      (0 < p → 9223372036854775807 < (s.load.vc : Int) + p → exec .volumeStep s = .next (startTx { s with
        trc := { s.trc with volumeDue := s.trc.volumeDue - 1 }, load := { s.load with lastParcel := 0 } })) ∧
      (0 < p → (s.load.vc : Int) + p ≤ 9223372036854775807 →
        (s.lookup s.drum).disposition = .windrow ∨ (s.lookup s.drum).disposition = .travel ∨ s.geo.lb = none ∨
          s.geo.cb = none →
        exec .volumeStep s = .next (startTx { s with
          trc := { s.trc with volumeDue := s.trc.volumeDue - 1 }
          load := { s.load with vc := s.load.vc + p.toNat, vw := s.load.vw + p.toNat, lastParcel := 0 } })) ∧
      (0 < p → (s.load.vc : Int) + p ≤ 9223372036854775807 →
        (s.lookup s.drum).disposition = .mill ∨ (s.lookup s.drum).disposition = .clear → s.geo.lb ≠ none →
        s.geo.cb ≠ none →
        ∃ t, exec .volumeStep s = .next (startTx t) ∧
          t.load = { s.load with
            vc := s.load.vc + p.toNat, lastParcel := p.toNat, parcels := t.load.parcels } ∧
          t.beltContent = s.beltContent + p.toNat ∧
          (s.load.parcels = [] → t.load.parcels = [⟨p.toNat, 0⟩]) ∧
          (∀ front q, s.load.parcels = front ++ [q] → q.pos < 50 ∨ 32 ≤ s.load.parcels.length →
            t.load.parcels = front ++ [⟨q.vol + p.toNat, q.pos⟩]) ∧
          (∀ front q, s.load.parcels = front ++ [q] → 50 ≤ q.pos → s.load.parcels.length < 32 →
            t.load.parcels = front ++ [q] ++ [⟨p.toNat, 0⟩]) ∧
          (∀ front q, s.load.parcels = front ++ [q] → 50 ≤ q.pos → 32 ≤ s.load.parcels.length →
            t.cst.flags.getLsbD 6 = true) ∧
          (∀ hc, s.hc = some hc → hc < (t.beltContent : Int) → t.cst.flags.getLsbD 7 = true) ∧
          toppingTested s t ∧
          t.tqs = { s.tqs with
            conveyor := t.tqs.conveyor, cmd := t.tqs.cmd, permit := t.permitOf, reasons := t.reasonsOf } ∧
          reportsMade 0b000010101 s t ∧
          t = { s with
            trc := { s.trc with volumeDue := s.trc.volumeDue - 1 }
            load := t.load, cst := t.cst, tqs := t.tqs, clp := t.clp }))

/-- A belt step (R149 to R153, R169, R170). On an empty list nothing changes. Else the parcels advance 10 mm and rest at Lb; those
at Lb go whole into a head truck whose need is above them all, and spill when no truck can take them. The first parcel at Lb that,
with those before it, meets or passes the need is split and fills the truck, which puts a running conveyor in HOLD; in every other
case the topping test is made (`toppingTested`). An issued step is no longer due (log entry 5). -/
def Obligations.BeltStepDischarge : Prop :=
  (∀ s : State, s.load.parcels = [] →
    exec .beltStep s = .next (startTx { s with trc := { s.trc with beltDue := s.trc.beltDue - 1 } })) ∧
  (∀ (s : State) (lb : Int) (moved : List Parcel), s.geo.lb = some lb → s.load.parcels ≠ [] →
    moved = s.load.parcels.map (fun q => { q with pos := min (q.pos + 10) lb.toNat }) →
    (∀ q ∈ s.load.parcels, q.pos ≤ lb.toNat) →
    ∃ t, exec .beltStep s = .next (startTx t) ∧
      t.load = { s.load with vd := t.load.vd, vs := t.load.vs, parcels := t.load.parcels } ∧
      t.load.vd + t.load.vs + t.beltContent = s.load.vd + s.load.vs + s.beltContent ∧
      (s.headReady = false →
        t.load.parcels = moved.dropWhile (fun q => lb.toNat ≤ q.pos) ∧ t.load.vd = s.load.vd ∧
        t.tqs.trucks = s.tqs.trucks ∧ t.tqs.lastFull = s.tqs.lastFull ∧ t.tqs.fullCount = s.tqs.fullCount ∧ toppingTested s t ∧
        ((moved.takeWhile (fun q => lb.toNat ≤ q.pos)) ≠ [] → t.cst.flags.getLsbD 8 = true) ∧
        ((moved.takeWhile (fun q => lb.toNat ≤ q.pos)) = [] → t.cst = s.cst ∧ t.load.vs = s.load.vs)) ∧
      (∀ h rest, s.tqs.trucks = h :: rest → h.takes = true →
        volumeOf (moved.takeWhile (fun q => lb.toNat ≤ q.pos)) < h.target * 1000 - h.fill →
        t.load.parcels = moved.dropWhile (fun q => lb.toNat ≤ q.pos) ∧ t.load.vs = s.load.vs ∧ t.cst = s.cst ∧
        t.tqs.trucks = { h with fill := h.fill + volumeOf (moved.takeWhile (fun q => lb.toNat ≤ q.pos)) } :: rest ∧
        t.load.vd = s.load.vd + volumeOf (moved.takeWhile (fun q => lb.toNat ≤ q.pos)) ∧ t.tqs.lastFull = s.tqs.lastFull ∧
        t.tqs.fullCount = s.tqs.fullCount ∧ toppingTested s t) ∧
      (∀ h rest front q more need, s.tqs.trucks = h :: rest → h.takes = true → moved = front ++ q :: more →
        (∀ f ∈ front, lb.toNat ≤ f.pos) → lb.toNat ≤ q.pos → h.fill + volumeOf front < h.target * 1000 →
        need = h.target * 1000 - (h.fill + volumeOf front) → need ≤ q.vol →
        t.load.parcels = (if q.vol = need then more else { q with vol := q.vol - need } :: more) ∧
        t.tqs.trucks = { h with fill := h.target * 1000, state := .full } :: rest ∧
        t.load.vd = s.load.vd + (h.target * 1000 - h.fill) ∧ t.load.vs = s.load.vs ∧
        t.tqs.lastFull = some ⟨h.id, h.target, h.target * 1000⟩ ∧
        t.tqs.fullCount = (if s.tqs.fullCount < 65535 then s.tqs.fullCount + 1 else 0) ∧
        (s.clp.enabled.getLsbD 3 = true → t.clp.waiting.getLsbD 3 = true) ∧
        (s.tqs.conveyor = .running ∨ s.tqs.conveyor = .topping → t.tqs.conveyor = .hold ∧ t.tqs.cmd = 0) ∧
        (s.tqs.conveyor ≠ .running → s.tqs.conveyor ≠ .topping →
          t.tqs.conveyor = s.tqs.conveyor ∧ t.tqs.cmd = s.tqs.cmd)) ∧
      t.tqs = { s.tqs with
        trucks := t.tqs.trucks, conveyor := t.tqs.conveyor, cmd := t.tqs.cmd, lastFull := t.tqs.lastFull
        fullCount := t.tqs.fullCount, permit := t.permitOf, reasons := t.reasonsOf } ∧
      reportsMade 0b000011101 s t ∧
      t = { s with
        trc := { s.trc with beltDue := s.trc.beltDue - 1 }
        load := t.load, cst := t.cst, tqs := t.tqs, clp := t.clp })

/-- COUNTERS_RESET (R145): Vc becomes the belt content, the other four counters 0, and the reply carries the five counters and B
as they then stand; parcels, last belt parcel volume and trucks stay. -/
def Obligations.CountersReset : Prop :=
  ∀ (s : State) (tag : Byte), s.linkFree →
    exec (.countersReset tag) s = .next (withReply
      ⟨0xB8, tag, 0x00 :: (bytesBE 8 s.beltContent ++ bytesBE 8 0 ++ bytesBE 8 0 ++ bytesBE 8 0 ++ bytesBE 8 0 ++
        bytesBE 8 s.beltContent)⟩
      { s with load := { s.load with vc := s.beltContent, vd := 0, vw := 0, vs := 0, vx := 0 } })

/-! ### Trucks, conveyor and permit (chapter 9) -/

/-- TRUCK_ADD, TRUCK_REMOVE, TRUCK_IN_POSITION and TRUCK_AWAY, accepted (R161 to R166, R168): a truck joins at the end, one behind
the head is taken out; a WAITING conveyor enters RUNNING (or TOPPING at once) with its head LOADING, in every other state the head is
IN_POSITION; a head that leaves puts a RUNNING, TOPPING or HOLD conveyor in WAITING with command 0. -/
def Obligations.TruckRequests : Prop :=
  (∀ (s : State) (tag : Byte) (id target : Nat) (h : Truck) (rest : List Truck), s.linkFree → 1 ≤ id → id ≤ 65535 →
    (1000 ≤ target → (target : Int) ≤ s.env.truckMax → (∀ t ∈ s.tqs.trucks, t.id ≠ id) → s.tqs.trucks.length < 4 →
      exec (.truckAdd tag id target) s = .next (withReply
        ⟨0xC0, tag, [0x00, BitVec.ofNat 8 (s.tqs.trucks.length + 1)]⟩
        { s with tqs := { s.tqs with trucks := s.tqs.trucks ++ [⟨id, target, 0, .waiting⟩] } })) ∧
    (s.tqs.trucks = h :: rest → h.id ≠ id → (∃ t ∈ rest, t.id = id) →
      exec (.truckRemove tag id) s = .next (withReply ⟨0xC3, tag, [0x00]⟩
        { s with tqs := { s.tqs with trucks := h :: rest.filter (fun t => t.id ≠ id) } }))) ∧
  (∀ (s : State) (tag : Byte) (h : Truck) (rest : List Truck), s.linkFree → s.tqs.trucks = h :: rest → 1 ≤ h.id →
    h.id ≤ 65535 →
    (h.state = .waiting → s.tqs.conveyor ≠ .waiting →
      exec (.truckInPosition tag h.id) s = .next (withReply ⟨0xC1, tag, [0x00]⟩
        { s with tqs := { s.tqs with trucks := { h with state := .inPosition } :: rest } })) ∧
    (h.state = .waiting → s.tqs.conveyor = .waiting →
      ∃ t, exec (.truckInPosition tag h.id) s = .next (withReply ⟨0xC1, tag, [0x00]⟩ t) ∧
        t.tqs = { s.tqs with
          trucks := { h with state := .loading } :: rest, stall := 0
          conveyor := if h.target * 1000 ≤ h.fill + s.nearDischarge then .topping else .running
          cmd := if h.target * 1000 ≤ h.fill + s.nearDischarge then min s.tun.vbMin s.env.vbMax else s.runCommand
          permit := t.permitOf, reasons := t.reasonsOf } ∧
        reportsMade 0b000010001 s t ∧ t = { s with tqs := t.tqs, clp := t.clp }) ∧
    (∃ t, exec (.truckAway tag h.id) s = .next (withReply
        ⟨0xC2, tag, 0x00 :: (bytesBE 2 h.id ++ bytesBE 2 h.target ++ bytesBE 4 h.fill ++ bytesBE 1 h.state.code)⟩ t) ∧
        (s.tqs.conveyor = .stopped ∨ s.tqs.conveyor = .waiting → t = { s with tqs := { s.tqs with trucks := rest } }) ∧
        (s.tqs.conveyor ≠ .stopped → s.tqs.conveyor ≠ .waiting → t.tqs = { s.tqs with
          trucks := rest, conveyor := .waiting, cmd := 0, permit := t.permitOf, reasons := t.reasonsOf }) ∧
        reportsMade 0b000010001 s t ∧ t = { s with tqs := t.tqs, clp := t.clp }))

/-- CONVEYOR_START, accepted, and CONVEYOR_STOP (R167, R168, R171, R174). -/
def Obligations.ConveyorRequests : Prop :=
  ∀ (s : State) (tag : Byte), s.linkFree →
    (s.eStop = false → s.geo.lb ≠ none → s.geo.cb ≠ none → s.geo.bppm ≠ none → s.geo.w ≠ none →
      s.tqs.conveyor = .stopped →
      ∃ t, exec (.conveyorStart tag) s = .next (withReply ⟨0xC4, tag, 0x00 :: bytesBE 1 t.tqs.conveyor.code⟩ t) ∧
        (s.headReady = false → t.tqs = { s.tqs with
          conveyor := .waiting, cmd := 0, permit := t.permitOf, reasons := t.reasonsOf }) ∧
        (∀ h rest, s.tqs.trucks = h :: rest → h.state = .inPosition ∨ h.state = .loading → t.tqs = { s.tqs with
          trucks := { h with state := .loading } :: rest, stall := 0
          conveyor := if h.target * 1000 ≤ h.fill + s.nearDischarge then .topping else .running
          cmd := if h.target * 1000 ≤ h.fill + s.nearDischarge then min s.tun.vbMin s.env.vbMax else s.runCommand
          permit := t.permitOf, reasons := t.reasonsOf }) ∧
        reportsMade 0b000010001 s t ∧ t = { s with tqs := t.tqs, clp := t.clp }) ∧
    (s.tqs.conveyor = .stopped → exec (.conveyorStop tag) s = .next (withReply ⟨0xC5, tag, [0x00]⟩ s)) ∧
    (s.tqs.conveyor ≠ .stopped →
      ∃ t, exec (.conveyorStop tag) s = .next (withReply ⟨0xC5, tag, [0x00]⟩ t) ∧
        t.tqs = { s.tqs with
          conveyor := .stopped, cmd := 0, stall := 0, permit := t.permitOf, reasons := t.reasonsOf } ∧
        reportsMade 0b000010001 s t ∧ t = { s with tqs := t.tqs, clp := t.clp })

/-! ### Machine parameters (chapter 10) -/

/-- The parameter table (R179, section 10.1): every item's id, class, range and the field it reads, and no other id; an enumerated
item reads as its code and a ski cell item as first × 256 + last (section 11.8). The refusals of R180 in the order of its checks: an
id outside the table RANGE, a geometry item that is set ALREADY_SET, a locked envelope item LOCKED with LOCKED_WRITE set, a value out
of range RANGE, a gate that is not met STATE. -/
def Obligations.ParameterTable : Prop :=
  (∀ p : Params, paramTable.map (fun r => (r.id, r.get p)) =
    [(1, p.geo.w), (2, p.geo.dd), (3, p.geo.ds), (4, p.geo.lb), (5, p.geo.cb), (6, p.geo.ppm), (7, p.geo.bppm),
      (16, some p.env.dmax), (17, some p.env.hLift), (18, some p.env.ru), (19, some p.env.rd), (20, some p.env.vmax),
      (21, some p.env.smax), (22, some p.env.trimLimit), (23, some p.env.vbMax), (24, some p.env.truckMax),
      (32, some p.tun.travelFilter), (33, some p.tun.beltFilter), (34, some p.tun.scanPitch),
      (35, some (p.tun.defaultDisp.code : Int)), (36, some p.tun.bAhead), (37, some p.tun.bBehind),
      (38, some p.tun.autoLead), (39, some p.tun.autoTrail), (40, some p.tun.pointMin),
      (41, some ((p.tun.skiCellsL.first * 256 + p.tun.skiCellsL.last : Nat) : Int)),
      (42, some ((p.tun.skiCellsR.first * 256 + p.tun.skiCellsR.last : Nat) : Int)), (43, some p.tun.fPercent),
      (44, some p.tun.tf), (45, some p.tun.nearLimit), (46, some p.tun.nf), (47, some p.tun.lineMin), (48, some p.tun.nl),
      (49, some (p.tun.refMode.code : Int)), (50, some p.tun.k), (51, some p.tun.t), (52, some p.tun.ns), (53, some p.tun.nc),
      (54, some p.tun.nt), (55, some p.tun.swell), (56, some p.tun.vbMin), (57, some p.tun.lt), (58, some p.tun.lp),
      (59, some p.tun.silenceTimeout), (60, some p.tun.telemetryPeriod)] ++
    [(64, some p.tunL.kp), (72, some p.tunR.kp), (65, some p.tunL.db), (73, some p.tunR.db), (66, some p.tunL.vmin),
      (74, some p.tunR.vmin), (67, some p.tunL.tol), (75, some p.tunR.tol), (68, some p.tunL.wSP), (76, some p.tunR.wSP),
      (69, some p.tunL.wSK), (77, some p.tunR.wSK), (80, some p.cal.plateL.zero), (81, some p.cal.plateL.span),
      (82, some p.cal.plateR.zero), (83, some p.cal.plateR.span), (84, some p.cal.legL.zero), (85, some p.cal.legL.span),
      (86, some p.cal.legR.zero), (87, some p.cal.legR.span), (88, some p.cal.slope.zero), (89, some p.cal.slope.span),
      (90, some p.cal.offsetL), (91, some p.cal.offsetR)]) ∧
  (∀ (ids : List Nat) (cls : ItemClass) (lo hi : Int), (ids, cls, lo, hi) ∈
    ([([1], .geometry, 1000, 4400), ([2], .geometry, -20000, 40000), ([3], .geometry, -20000, 60000),
      ([4], .geometry, 2000, 30000), ([5], .geometry, 1000, 100000), ([6, 7], .geometry, 100, 20000),
      ([16], .envelope, 0, 3500), ([17], .envelope, 100, 2000), ([18], .envelope, 1, 50), ([19], .envelope, 1, 20),
      ([20], .envelope, 100, 1000), ([21], .envelope, 0, 1000), ([22], .envelope, 0, 500), ([23], .envelope, 1000, 7000),
      ([24], .envelope, 1000, 40000), ([34], .tuning, 20, 1000), ([35], .tuning, 0, 1), ([36], .tuning, 0, 100000),
      ([37, 38, 39], .tuning, 0, 20000), ([40, 47], .tuning, 0, 255), ([44], .tuning, 1, 100), ([45], .tuning, 500, 20000),
      ([46, 48, 53], .tuning, 1, 16), ([49], .tuning, 0, 2), ([50], .tuning, 1, 32), ([51], .tuning, 10, 500),
      ([52], .tuning, 1, 4), ([54], .tuning, 1, 8), ([55], .tuning, 100, 160), ([56], .tuning, 300, 2000),
      ([57], .tuning, 200, 3000), ([58], .tuning, 500, 3000), ([64, 72], .tuning, 1, 255), ([65, 73], .tuning, 0, 50),
      ([66, 74], .tuning, 0, 300), ([67, 75], .tuning, 1, 100), ([68, 76, 69, 77], .tuning, 0, 15),
      ([80, 82, 84, 86, 88], .calibration, -100000, 100000), ([81, 83, 85, 87, 89], .calibration, 1, 60000),
      ([90, 91], .calibration, -10000, 10000)] : List (List Nat × ItemClass × Int × Int)) →
    ∀ id ∈ ids, ∃ row, findParam id = some row ∧ row.cls = cls ∧ ∀ v, row.ok v = true ↔ lo ≤ v ∧ v ≤ hi) ∧
  (∀ id ∈ [32, 33], ∃ row, findParam id = some row ∧ row.cls = .tuning ∧
    ∀ v, row.ok v = true ↔ v ∈ [1, 2, 4, 8, 16, 32, 64, 128]) ∧
  (∀ id ∈ [41, 42], ∃ row, findParam id = some row ∧ row.cls = .tuning ∧
    ∀ v, row.ok v = true ↔ ∃ first last : Nat, v = ((first * 256 + last : Nat) : Int) ∧ first ≤ last ∧ last ≤ 15 ∧
      last < first + 8) ∧
  (∃ row, findParam 43 = some row ∧ row.cls = .tuning ∧ ∀ v, row.ok v = true ↔ v ∈ [60, 70, 80, 90]) ∧
  (∃ row, findParam 59 = some row ∧ row.cls = .tuning ∧ ∀ v, row.ok v = true ↔ v = 0 ∨ 200 ≤ v ∧ v ≤ 5000) ∧
  (∃ row, findParam 60 = some row ∧ row.cls = .tuning ∧ ∀ v, row.ok v = true ↔ v = 0 ∨ 100 ≤ v ∧ v ≤ 5000) ∧
  (∀ (s : State) (tag : Byte) (item : Nat) (v : Int), s.linkFree →
    (findParam item = none → exec (.setParam tag item v) s = .next (withReply ⟨0xC8, tag, [0x12]⟩ s)) ∧
    (∀ row, findParam item = some row →
      (row.cls = .geometry → row.get s.mpr.params ≠ none →
        exec (.setParam tag item v) s = .next (withReply ⟨0xC8, tag, [0x15]⟩ s)) ∧
      (row.cls = .envelope → s.mpr.lock = true → s.cst.flags.getLsbD 12 = true →
        exec (.setParam tag item v) s = .next (withReply ⟨0xC8, tag, [0x14]⟩ s)) ∧
      (row.cls = .envelope → s.mpr.lock = true → s.cst.flags.getLsbD 12 = false → s.cst.armed = false →
        exec (.setParam tag item v) s = .next (withReply ⟨0xC8, tag, [0x14]⟩
          { s with cst := { s.cst with flags := s.cst.flags ||| 0x1000 } })) ∧
      ((row.cls = .geometry → row.get s.mpr.params = none) → (row.cls = .envelope → s.mpr.lock = false) →
        (row.ok v = false → exec (.setParam tag item v) s = .next (withReply ⟨0xC8, tag, [0x12]⟩ s)) ∧
        (row.ok v = true → row.cls = .envelope →
          (∃ x, (s.ch x).state = .auto ∨ (s.ch x).state = .jog) →
          exec (.setParam tag item v) s = .next (withReply ⟨0xC8, tag, [0x13]⟩ s)) ∧
        (row.ok v = true → row.cls = .calibration → (∃ x, (s.ch x).state ≠ .off) → s.mpr.calOpen = false →
          exec (.setParam tag item v) s = .next (withReply ⟨0xC8, tag, [0x13]⟩ s)))))

/-- SET_PARAM, accepted, for every item of the parameter table (R179 to R182, R122, R169, R175, R186, R196, R197): the item reads
back the value, every other item keeps its own, and the owner acts in the same event. A write of Dmax or H_lift clamps the held
goals, the d_cmd of a HELD channel and the slope-side return depth; Smax and the trim limit clamp the setpoints and trims; Dd and
DEFAULT_DISPOSITION re-form the disposition; the write that completes Lb and C_b, and Lp, form the permit; Lt makes the topping
test; a changed reference mode drops the held reference; items 59 and 60 restart their timers. The four bytes of the value in the
reply are the model's reading of R202 (log entry 16). -/
def Obligations.SetParamAccepted : Prop :=
  ∀ (s : State) (tag : Byte) (item : Nat) (v : Int) (row : ParamRow), s.linkFree → findParam item = some row →
    (row.cls = .geometry → row.get s.mpr.params = none) → (row.cls = .envelope → s.mpr.lock = false) →
    row.ok v = true → (row.cls = .envelope → ∀ x, (s.ch x).state ≠ .auto ∧ (s.ch x).state ≠ .jog) →
    (row.cls = .calibration → s.chL.state = .off ∧ s.chR.state = .off ∨ s.mpr.calOpen = true) →
    ∃ t, exec (.setParam tag item v) s =
        .next (withReply ⟨0xC8, tag, 0x00 :: (bytesBE 1 item ++ bytesBE 4 v)⟩ t) ∧
      row.get t.mpr.params = some v ∧
      (∀ other ∈ paramTable, other.id ≠ item → other.get t.mpr.params = other.get s.mpr.params) ∧
      t.mpr.lock = s.mpr.lock ∧ t.mpr.calOpen = s.mpr.calOpen ∧
      (∀ x, item = 16 ∨ item = 17 → t.ch x = { s.ch x with
        heldGoal := clamp (s.ch x).heldGoal (-t.env.hLift) t.env.dmax
        dCmd := if (s.ch x).state = .held then clamp (s.ch x).dCmd (-t.env.hLift) t.env.dmax else (s.ch x).dCmd }) ∧
      (∀ x, item = 21 → t.ch x = { s.ch x with slopeSet := clamp (s.ch x).slopeSet (-v) v }) ∧
      (∀ x, item = 22 → t.ch x = { s.ch x with trim := clamp (s.ch x).trim (-v) v }) ∧
      (∀ x, item ≠ 16 → item ≠ 17 → item ≠ 21 → item ≠ 22 → t.ch x = s.ch x) ∧
      (item = 49 → t.chd = if t.tun.refMode = s.chd.mode then s.chd
        else { s.chd with mode := t.tun.refMode, held := none, stepCount := 0 }) ∧
      (item ≠ 49 → t.chd = s.chd) ∧
      (item = 2 ∨ item = 35 → dispositionReformed { s with mpr := t.mpr } t) ∧
      (item ≠ 2 → item ≠ 35 → t.plt = s.plt) ∧
      (item = 16 ∨ item = 17 → t.mlc = { s.mlc with
        returnDepth := s.mlc.returnDepth.map (fun d => clamp d (-t.env.hLift) t.env.dmax) }) ∧
      (item ≠ 2 → item ≠ 35 → item ≠ 16 → item ≠ 17 → t.mlc = s.mlc) ∧
      (item = 4 ∨ item = 5 → t.tqs = if t.geo.lb ≠ none ∧ t.geo.cb ≠ none then
        { s.tqs with permit := t.permitOf, reasons := t.reasonsOf } else s.tqs) ∧
      (item = 58 → t.tqs = { s.tqs with permit := t.permitOf, reasons := t.reasonsOf }) ∧
      (∀ h rest, item = 57 → s.tqs.conveyor = .running → s.tqs.trucks = h :: rest →
        h.target * 1000 ≤ h.fill + t.nearDischarge →
        t.tqs = { s.tqs with
          conveyor := .topping, cmd := min s.tun.vbMin s.env.vbMax, permit := t.permitOf, reasons := t.reasonsOf }) ∧
      (∀ h rest, item = 57 → s.tqs.trucks = h :: rest →
        s.tqs.conveyor ≠ .running ∨ h.fill + t.nearDischarge < h.target * 1000 → t.tqs = s.tqs) ∧
      (item = 57 → s.tqs.trucks = [] → t.tqs = s.tqs) ∧
      (item ≠ 2 → item ≠ 4 → item ≠ 5 → item ≠ 35 → item ≠ 57 → item ≠ 58 → t.tqs = s.tqs) ∧
      (t.tqs.permit ≠ s.tqs.permit → s.clp.enabled.getLsbD 4 = true → t.clp.waiting.getLsbD 4 = true) ∧
      (t.tqs.conveyor ≠ s.tqs.conveyor → s.clp.enabled.getLsbD 0 = true → t.clp.waiting.getLsbD 0 = true) ∧
      (item = 59 ∨ item = 60 → reportsMade 0b000000000 { s with clp := { s.clp with
        silence := if item = 59 then 0 else s.clp.silence, telemetry := if item = 60 then 0 else s.clp.telemetry } } t) ∧
      (item ≠ 59 → item ≠ 60 → reportsMade 0b000010001 s t) ∧
      t = { s with
        mpr := t.mpr, chL := t.chL, chR := t.chR, plt := t.plt, mlc := t.mlc, chd := t.chd, tqs := t.tqs, clp := t.clp }

/-- GET_PARAM, LOCK_ENVELOPE, SET_CAL_OPEN and ZERO_SENSOR, accepted (R180, R183 to R185, R187, R202). The code of an item's class is
left open (log entry 14), an unset value keeps its width (log entry 15), and an item's value takes four bytes in GET_PARAM as in
SET_PARAM, the new zero of ZERO_SENSOR three, the fewest that hold its range (log entry 16). -/
def Obligations.ParamRequests : Prop :=
  ∀ (s : State) (tag : Byte) (item sensor : Nat) (known : Int) (row : ParamRow) (x : Sensor) (b : Bool), s.linkFree →
    (findParam item = some row →
      exec (.getParam tag item) s = .next (withReply ⟨0xC9, tag, 0x00 ::
        (bytesBE 1 item ++ [Config.classCode row.cls.place] ++
        (match row.get s.mpr.params with
          | some w => 0x01 :: bytesBE 4 w
          | none => List.replicate 5 0x00) ++
        [if s.mpr.lock then 0x01 else 0x00] ++ [if s.mpr.calOpen then 0x01 else 0x00])⟩ s)) ∧
    exec (.lockEnvelope tag) s = .next (withReply ⟨0xCA, tag, [0x00]⟩
      { s with mpr := { s.mpr with lock := true, calOpen := false } }) ∧
    (s.mpr.lock = false → exec (.setCalOpen tag (if b then 1 else 0)) s = .next (withReply ⟨0xCB, tag, [0x00]⟩
      { s with mpr := { s.mpr with calOpen := b } })) ∧
    (sensorOf sensor = some x → x.knownOk known = true →
      (s.chL.state = .off ∧ s.chR.state = .off) ∨ s.mpr.calOpen = true → 614 ≤ s.rawOf x → s.rawOf x ≤ 3532 →
      ∃ z, z = known - Int.tdiv (((s.rawOf x : Int) - 683) * (s.calOf x).span) 2730 ∧
        exec (.zeroSensor tag sensor known) s = .next (withReply ⟨0xCC, tag, 0x00 :: bytesBE 3 z⟩
          { s with mpr := { s.mpr with params := { s.mpr.params with cal := s.cal.setZero x z } } }))

/-! ### The Control Link (chapter 11) -/

/-- IDENTIFY, GET_STATUS and a request of a kind that names none (R192, R198, R199): answered in every state, changing nothing. The
five parts carry, field by field, what R15, R22, R73, R93, R114, R130, R134, R157, R177, R183 and R199 list, in the layouts of R202;
a speed that does not fit its two bytes is left open (log entry 13), an absent value keeps its width (15), widths and orders that no
table gives are log entries 16, 17, 39 and 40. -/
def Obligations.LinkReads : Prop :=
  ∀ (s : State) (tag kind : Byte) (part : Nat) (yes : Bool → List Byte) (speed : Int → List Byte)
    (absent2 absent4 : Option Int → List Byte), s.linkFree →
    yes = (fun b => [if b then 0x01 else 0x00]) →
    speed = (fun v => if -32768 ≤ v ∧ v ≤ 32767 then bytesBE 2 v else bytesBE 2 (Config.speedCode v).toNat) →
    absent2 = (fun o => match o with
      | some v => 0x01 :: bytesBE 2 v
      | none => List.replicate 3 0x00) →
    absent4 = (fun o => match o with
      | some v => 0x01 :: bytesBE 4 v
      | none => List.replicate 5 0x00) →
    exec (.identify tag) s = .next (withReply ⟨0xF0, tag,
      [0x00, 0x02, 0x6C, 0x01,
        if s.geo.w ≠ none ∧ s.geo.dd ≠ none ∧ s.geo.ds ≠ none ∧ s.geo.lb ≠ none ∧ s.geo.cb ≠ none ∧
          s.geo.ppm ≠ none ∧ s.geo.bppm ≠ none then 0x01 else 0x00,
        (if s.geo.w ≠ none then 0x01 else 0) + (if s.geo.dd ≠ none then 0x02 else 0) +
        (if s.geo.ds ≠ none then 0x04 else 0) + (if s.geo.lb ≠ none then 0x08 else 0) +
        (if s.geo.cb ≠ none then 0x10 else 0) + (if s.geo.ppm ≠ none then 0x20 else 0) +
        (if s.geo.bppm ≠ none then 0x40 else 0)]⟩ s) ∧
    (4 < part → exec (.getStatus tag part) s = .next (withReply ⟨0xF1, tag, [0x12]⟩ s)) ∧
    exec (.getStatus tag 0) s = .next (withReply ⟨0xF1, tag, 0x00 ::
      (bytesBE 4 s.chainage ++ bytesBE 4 s.drum ++ bytesBE 4 s.trc.hw ++ speed s.trc.advance ++ speed s.trc.beltSpeed ++
      bytesBE 9 s.beltTravel ++ bytesBE 2 s.trc.rejectedTravel ++ bytesBE 2 s.trc.rejectedBelt ++
      bytesBE 1 s.plt.disposition.code ++ yes s.plt.covered ++
      [(if s.mlc.causes.manual then 0x01 else 0) + (if s.mlc.causes.plan then 0x02 else 0) +
        (if s.mlc.causes.window then 0x04 else 0)] ++ yes s.lifted ++ absent2 s.mlc.returnDepth ++
      bytesBE 1 s.mlc.markers.length ++ bytesBE 2 s.mlc.lost ++ bytesBE 2 s.mlc.eventCount ++
      bytesBE 1 s.chd.mode.code ++ bytesBE 1 s.tun.k ++ bytesBE 1 s.chd.det.code ++ bytesBE 1 s.chd.n ++
      bytesBE 1 s.chd.quiet ++ absent4 s.chd.runStart ++ bytesBE 1 s.chd.history.length ++ absent4 s.chd.lastAt ++
      bytesBE 1 s.chd.stepCount ++
      (match s.chd.held with
        | some r => 0x01 :: (bytesBE 1 r.number ++ bytesBE 4 r.scanAt)
        | none => List.replicate 6 0x00) ++
      yes (s.chd.condition || s.chd.geometry) ++
      [(if s.chd.condition then 0x01 else 0) + (if s.chd.geometry then 0x02 else 0)] ++
      bytesBE 2 s.chd.trips ++ absent4 s.chd.lastTrip)⟩ s) ∧
    exec (.getStatus tag 1) s = .next (withReply ⟨0xF1, tag, 0x00 ::
      ([s.chL, s.chR].flatMap (fun c =>
        bytesBE 1 c.state.code ++ [(if c.holdSource then 0x01 else 0) + (if c.holdLink then 0x02 else 0)] ++
        bytesBE 1 c.mode.code ++ yes c.returning ++ yes (c.grade = 10) ++ yes c.sourceValid ++
        absent2 c.plate ++ absent2 c.leg ++ absent2 c.slope ++ bytesBE 2 c.dMeas ++ bytesBE 2 c.dCmd ++ absent2 c.goal ++
        bytesBE 2 c.heldGoal ++ bytesBE 2 c.valve ++ bytesBE 2 c.depthSet ++ bytesBE 2 c.slopeSet ++ bytesBE 2 c.trim) ++
      bytesBE 1 s.target.code)⟩ s) ∧
    exec (.getStatus tag 2) s = .next (withReply ⟨0xF1, tag, 0x00 ::
      (yes s.spr.enable ++ fCondition s.spr ++ yes (s.skiValid .L) ++ yes (s.skiValid .R) ++
      bytesBE 4 s.spr.counters.sent ++ bytesBE 4 s.spr.counters.completed ++ bytesBE 4 s.spr.counters.missed ++
      bytesBE 4 s.spr.counters.timedOut ++ bytesBE 4 s.spr.counters.stray ++ bytesBE 4 s.spr.counters.bad ++
      bytesBE 4 s.spr.counters.overruns)⟩ s) ∧
    exec (.getStatus tag 3) s = .next (withReply ⟨0xF1, tag, 0x00 ::
      (bytesBE 8 s.load.vc ++ bytesBE 8 s.load.vd ++ bytesBE 8 s.load.vw ++ bytesBE 8 s.load.vs ++ bytesBE 8 s.load.vx ++
      bytesBE 8 s.beltContent ++ bytesBE 1 s.load.parcels.length ++ bytesBE 3 s.load.lastParcel ++
      bytesBE 1 s.tqs.conveyor.code ++ speed s.tqs.cmd ++ bytesBE 1 s.tqs.stall ++
      (match s.tqs.lastFull with
        | some f => 0x01 :: (bytesBE 2 f.id ++ bytesBE 2 f.target ++ bytesBE 4 f.fill)
        | none => List.replicate 9 0x00) ++
      bytesBE 2 s.tqs.fullCount ++ bytesBE 1 s.tqs.permit.code ++
      [(if s.tqs.reasons.estop then 0x01 else 0) + (if s.tqs.reasons.link then 0x02 else 0) +
        (if s.tqs.reasons.source then 0x04 else 0) + (if s.tqs.reasons.conveyor then 0x08 else 0)] ++
      bytesBE 8 s.nearDischarge ++ bytesBE 8 s.nearLoading ++
      (match s.geo.lb, s.geo.cb with
        | some _, some cb => 0x01 :: bytesBE 3 (Int.tdiv (cb * s.tun.lp) 1000)
        | _, _ => List.replicate 4 0x00) ++
      bytesBE 1 s.tqs.trucks.length ++
      s.tqs.trucks.flatMap (fun q => bytesBE 2 q.id ++ bytesBE 2 q.target ++ bytesBE 4 q.fill ++ bytesBE 1 q.state.code))⟩ s) ∧
    exec (.getStatus tag 4) s = .next (withReply ⟨0xF1, tag, 0x00 ::
      (bytesBE 2 s.cst.flags.toNat ++ yes (s.cst.flags ≠ 0) ++ yes s.cst.armed ++ yes s.mpr.lock ++ yes s.mpr.calOpen ++
      yes s.eStop ++ yes s.clp.silent ++ bytesBE 2 s.clp.enabled.toNat ++ bytesBE 2 s.tun.telemetryPeriod ++
      bytesBE 4 s.clp.counters.valid ++ bytesBE 4 s.clp.counters.crc ++ bytesBE 4 s.clp.counters.format ++
      bytesBE 4 s.clp.counters.gap ++ bytesBE 4 s.clp.counters.dropped ++ bytesBE 4 s.clp.counters.replies ++
      bytesBE 4 s.clp.counters.reports ++ bytesBE 4 (s.now % 4294967296 : Nat))⟩ s) ∧
    exec (.unknownKind tag kind) s = .next (withReply ⟨kind + 0x80, tag, [0x10]⟩ s)

/-- SET_REPORTING (R195): a set with a kind outside the nine is refused with RANGE; else it becomes the enable set, each pending
kind that is not in it is withdrawn, and the reply carries it. -/
def Obligations.SetReporting : Prop :=
  ∀ (s : State) (tag : Byte) (kinds : BitVec 16), s.linkFree →
    exec (.setReporting tag kinds) s = .next
      (if kinds.toNat < 512 then
        withReply ⟨0xF2, tag, 0x00 :: bytesBE 2 kinds.toNat⟩ { s with clp := { s.clp with
          enabled := kinds.setWidth 9, waiting := s.clp.waiting &&& kinds.setWidth 9 } }
      else withReply ⟨0xF2, tag, [0x12]⟩ s)

/-- The end of a frame (R192, R193): a waiting reply is sent and the oldest waiting request taken and answered by its owner
(`serve`), which with no other request waiting is what the request's own row does; with no reply the pending report of lowest
number is sent, with tag 0 and the content of this moment; else the transmitter is IDLE. The same choice, `startTx`, ends every
other event: a frame that is being sent is not interrupted, and an IDLE transmitter chooses (log entry 8). The content of each
report is written out (R40, R52, R72, R86, R92, R112, R139, R166, R170, R175, R202, section 11.8); a speed that does not fit is
left open, an absent value keeps its width, and the eight bytes of the near-loading volume are the model's reading (log entries
13, 15 and 16). -/
def Obligations.TransmitEnd : Prop :=
  (∀ (s : State) (f : Frame) (q : Queued) (rest : List Queued),
    (s.clp.slot = some f → s.clp.buffer = [] →
      exec .transmitEnd s = .next { s with clp := { s.clp with
        tx := some f, slot := none
        counters := { s.clp.counters with
          replies := if s.clp.counters.replies < 4294967295 then s.clp.counters.replies + 1 else 4294967295 } } }) ∧
    (∀ u i, s.clp.slot = some f → s.clp.buffer = q :: rest →
      u = { s with clp := { s.clp with
        tx := some f, slot := none, buffer := rest
        counters := { s.clp.counters with
          replies := if s.clp.counters.replies < 4294967295 then s.clp.counters.replies + 1 else 4294967295 } } } →
      exec .transmitEnd s = .next { (serve q.req u).1 with clp := { (serve q.req u).1.clp with
        slot := some ⟨q.req.kind + 0x80, q.tag, (serve q.req u).2.code.code :: (serve q.req u).2.values⟩ } } ∧
      (rest = [] → queuedOf i = some q → exec .transmitEnd s = exec i u) ∧
      (q.req = .badLength q.req.kind → serve q.req u = (u, ⟨.badLength, []⟩)) ∧
      (q.req = .unknown q.req.kind → serve q.req u = (u, ⟨.unknownKind, []⟩))) ∧
    (s.clp.slot = none → s.clp.buffer = [] →
      exec .transmitEnd s = .next (startTx { s with clp := { s.clp with tx := none } }))) ∧
  (∀ (s : State) (f : Frame),
    (s.clp.tx = some f → startTx s = s) ∧
    (s.clp.tx = none → s.clp.slot = none → s.clp.waiting = 0 → startTx s = s) ∧
    (s.clp.tx = none → s.clp.slot = some f → startTx s = { s with clp := { s.clp with
      tx := some f, slot := none
      counters := { s.clp.counters with
        replies := if s.clp.counters.replies < 4294967295 then s.clp.counters.replies + 1 else 4294967295 } } })) ∧
  (∀ (s : State) (k : ReportKind) (yes : Bool → List Byte) (speed : Int → List Byte) (causes : Channel → List Byte)
    (content : List Byte), s.clp.tx = none → s.clp.slot = none → s.clp.waiting.getLsbD k.code = true →
    (∀ j, j < k.code → s.clp.waiting.getLsbD j = false) →
    yes = (fun b => [if b then 0x01 else 0x00]) →
    speed = (fun v => if -32768 ≤ v ∧ v ≤ 32767 then bytesBE 2 v else bytesBE 2 (Config.speedCode v).toNat) →
    causes = (fun c => [(if c.holdSource then 0x01 else 0) + (if c.holdLink then 0x02 else 0)]) →
    content = (match k with
      | .state => bytesBE 1 s.chL.state.code ++ causes s.chL ++ bytesBE 1 s.chR.state.code ++ causes s.chR ++
          [(if s.mlc.causes.manual then 0x01 else 0) + (if s.mlc.causes.plan then 0x02 else 0) +
            (if s.mlc.causes.window then 0x04 else 0)] ++ yes s.lifted ++ bytesBE 1 s.tqs.conveyor.code
      | .grade => [s.chL, s.chR].flatMap (fun c =>
          bytesBE 1 c.state.code ++ yes (c.grade = 10) ++ bytesBE 2 c.dCmd ++ bytesBE 2 c.dMeas)
      | .fault => bytesBE 2 s.cst.flags.toNat ++ yes (s.cst.flags ≠ 0) ++ yes s.cst.armed ++
          (match s.cst.locus with
            | some l => 0x01 :: (bytesBE 1 l.flag.code ++ bytesBE 1 l.source.code ++ bytesBE 4 l.drum ++ bytesBE 4 l.time)
            | none => List.replicate 11 0x00) ++ bytesBE 2 s.cst.captures
      | .truckFull =>
          (match s.tqs.lastFull with
            | some f => 0x01 :: (bytesBE 2 f.id ++ bytesBE 2 f.target ++ bytesBE 4 f.fill)
            | none => List.replicate 9 0x00) ++
          bytesBE 2 s.tqs.fullCount ++ bytesBE 1 s.tqs.trucks.length ++ bytesBE 1 s.tqs.conveyor.code
      | .permit => bytesBE 1 s.tqs.permit.code ++
          [(if s.tqs.reasons.estop then 0x01 else 0) + (if s.tqs.reasons.link then 0x02 else 0) +
            (if s.tqs.reasons.source then 0x04 else 0) + (if s.tqs.reasons.conveyor then 0x08 else 0)] ++
          bytesBE 1 s.tqs.conveyor.code ++ bytesBE 8 s.beltContent ++ bytesBE 8 s.nearLoading
      | .marker => bytesBE 1 s.mlc.lastEvent.kind.code ++ bytesBE 1 s.mlc.lastEvent.id ++ bytesBE 4 s.mlc.lastEvent.m ++
          bytesBE 2 s.mlc.lastEvent.lead ++ bytesBE 2 s.mlc.lastEvent.trail ++ bytesBE 1 s.mlc.lastEvent.origin.code ++
          bytesBE 1 s.mlc.markers.length ++ bytesBE 2 s.mlc.lost ++ bytesBE 2 s.mlc.eventCount
      | .scanner => yes s.spr.enable ++ fCondition s.spr ++ bytesBE 1 s.spr.fouledRun ++ bytesBE 1 s.spr.lowRun ++
          [Side.L, Side.R].flatMap (fun x =>
            (match s.ski x with
              | some g => 0x01 :: bytesBE 2 g.surface
              | none => List.replicate 3 0x00) ++ yes (s.skiValid x)) ++
          bytesBE 4 s.spr.counters.sent ++ bytesBE 4 s.spr.counters.completed ++ bytesBE 4 s.spr.counters.missed ++
          bytesBE 4 s.spr.counters.timedOut ++ bytesBE 4 s.spr.counters.stray ++ bytesBE 4 s.spr.counters.bad ++
          bytesBE 4 s.spr.counters.overruns
      | .splice => bytesBE 1 s.plt.splice.code ++ bytesBE 1 s.plt.lastEvent.code ++ bytesBE 4 s.plt.a ++ bytesBE 4 s.plt.b ++
          bytesBE 4 s.plt.p ++ bytesBE 1 s.plt.stepIndex ++ bytesBE 1 s.plt.staging.length ++ bytesBE 1 s.plt.plan.length
      | .telemetry => bytesBE 4 s.chainage ++ bytesBE 4 s.drum ++ speed s.trc.advance ++ speed s.trc.beltSpeed ++
          [s.chL, s.chR].flatMap (fun c =>
            bytesBE 1 c.state.code ++ bytesBE 2 c.dMeas ++ bytesBE 2 c.dCmd ++ bytesBE 2 c.valve) ++
          yes s.lifted ++ yes (s.cst.flags ≠ 0) ++ bytesBE 8 s.beltContent ++ bytesBE 1 s.load.parcels.length ++
          bytesBE 1 s.tqs.conveyor.code ++ speed s.tqs.cmd ++ bytesBE 1 s.tqs.permit.code) →
    startTx s = { s with clp := { s.clp with
      tx := some ⟨BitVec.ofNat 8 (0xE0 + k.code), 0, content⟩
      waiting := s.clp.waiting &&& ~~~(1#9 <<< k.code)
      counters := { s.clp.counters with
        reports := if s.clp.counters.reports < 4294967295 then s.clp.counters.reports + 1 else 4294967295 } } })

/-- FRAME_START, FRAME_LENGTH_ERROR, GAP_DISCARD and SCANNER_FRAME_GAP (R95, R190), each with the choice of an IDLE transmitter
(`startTx`, R193). -/
def Obligations.FramingEvents : Prop :=
  ∀ (s : State) (len : Byte) (bytes : List Byte), 248 < len.toNat →
    (s.clp.rx = .hunt → exec .frameStart s = .next (startTx { s with clp := { s.clp with rx := .inFrame [] } })) ∧
    (s.clp.rx = .inFrame [] → exec .frameStart s = .next (startTx { s with clp := { s.clp with rx := .inFrame [0x5A] } })) ∧
    (s.clp.rx = .inFrame [] → exec (.frameLengthError len) s = .next (startTx { s with clp := { s.clp with
      rx := .hunt
      counters := { s.clp.counters with
        format := if s.clp.counters.format < 4294967295 then s.clp.counters.format + 1 else 4294967295 } } })) ∧
    (s.clp.rx = .hunt → exec (.frameLengthError len) s = .next (startTx s)) ∧
    (s.clp.rx = .inFrame bytes → exec .gapDiscard s = .next (startTx { s with clp := { s.clp with
      rx := .hunt
      counters := { s.clp.counters with
        gap := if s.clp.counters.gap < 4294967295 then s.clp.counters.gap + 1 else 4294967295 } } })) ∧
    (s.spr.rx = .inFrame bytes → exec .scannerFrameGap s = .next (startTx { s with spr := { s.spr with
      rx := .hunt
      counters := { s.spr.counters with
        bad := if s.spr.counters.bad < 4294967295 then s.spr.counters.bad + 1 else 4294967295 } } }))

/-- LINK_SILENCE and TELEMETRY_PERIOD while their items are above 0 (R50, R52, R72, R175, R176, R196, R197): a channel in AUTO is
HELD with LINK, one in HELD gains LINK, a jog ends; the permit becomes STOP and the conveyor goes on; a changed channel queues
STATE and a changed permit PERMIT. The on-grade counter of a channel that silence holds becomes 0 in this event, with the GRADE
report of a changed ON_GRADE: the model's reading (log entry 10). A TELEMETRY report is queued and a new period begins. -/
def Obligations.SilenceAndTelemetry : Prop :=
  ∀ s : State,
    (0 < s.tun.silenceTimeout → s.clp.silent = false →
      ∃ t u, exec .linkSilence s = .next (startTx t) ∧
        u = { s with clp := { s.clp with silent := true, silence := s.tun.silenceTimeout.toNat } } ∧
        (∀ x, (s.ch x).state = .auto → t.ch x = { s.ch x with
          state := .held, holdLink := true, holdSource := false, valve := 0, grade := 0 }) ∧
        (∀ x, (s.ch x).state = .held → t.ch x = { s.ch x with holdLink := true }) ∧
        (∀ x, (s.ch x).state = .jog → t.ch x = { s.ch x with
          state := .off, holdSource := false, holdLink := false, goal := none, returning := false, lastLifted := false
          valve := 0, jogValue := 0, jogLeft := 0, grade := 0 }) ∧
        (∀ x, (s.ch x).state = .off → t.ch x = s.ch x) ∧
        t.tqs = { s.tqs with permit := .stop, reasons := t.reasonsOf } ∧ t.tqs.reasons.link = true ∧
        (∀ x, (s.ch x).state = .auto ∨ (s.ch x).state = .jog ∨ (s.ch x).state = .held ∧ (s.ch x).holdLink = false →
          s.clp.enabled.getLsbD 0 = true → t.clp.waiting.getLsbD 0 = true) ∧
        (∀ x, (s.ch x).state = .auto → (s.ch x).grade = 10 → s.clp.enabled.getLsbD 1 = true →
          t.clp.waiting.getLsbD 1 = true) ∧
        (s.tqs.permit ≠ .stop → s.clp.enabled.getLsbD 4 = true → t.clp.waiting.getLsbD 4 = true) ∧
        reportsMade 0b000010011 u t ∧ t = { u with chL := t.chL, chR := t.chR, tqs := t.tqs, clp := t.clp }) ∧
    (0 < s.tun.telemetryPeriod →
      exec .telemetryPeriod s = .next (startTx { s with clp := { s.clp with
        telemetry := 0, waiting := s.clp.waiting ||| (0b100000000 &&& s.clp.enabled) } }))

/-- The bytes of a request's frame, received in HUNT, act as the request row after the frame's own accounting: the valid frame
count, the silence timer and the end of silence (R189 to R191, R202, section 11.8). It says that the frame, its CRC and every
payload field of every request are read back as they were written. A request behind a full slot waits in the buffer, and one that
finds two there is dropped and counted (R191, R192). A frame whose CRC does not match is a CRC error and one of kind 0x80 or above
a format error, with no other effect (R190, R191). A payload length that does not fit the kind is answered with BAD_LENGTH (R192). -/
def Obligations.ValidFrameActsAsItsRequest : Prop :=
  (∀ (i : Instr) (q : Queued) (s u : State), queuedOf i = some q → i.wf = true → s.clp.rx = .hunt →
    u = { s with clp := { s.clp with
      silence := 0, silent := false
      counters := { s.clp.counters with
        valid := if s.clp.counters.valid < 4294967295 then s.clp.counters.valid + 1 else 4294967295 } } } →
    ∃ t, exec (.validFrame (Frame.wire ⟨q.req.kind, q.tag, q.req.payload⟩)) s = .next t ∧
      exec i (if s.clp.silent then formPermit u else u) = .next t) ∧
  (∀ (i : Instr) (q : Queued) (s : State), queuedOf i = some q → s.clp.tx ≠ none → s.clp.slot ≠ none →
    (s.clp.buffer.length < 2 →
      exec i s = .next { s with clp := { s.clp with buffer := s.clp.buffer ++ [q] } }) ∧
    (2 ≤ s.clp.buffer.length → exec i s = .next { s with clp := { s.clp with
      counters := { s.clp.counters with
        dropped := if s.clp.counters.dropped < 4294967295 then s.clp.counters.dropped + 1 else 4294967295 } } })) ∧
  (∀ (s u : State) (f : Frame) (c : List Byte), s.clp.rx = .hunt → f.payload.length ≤ 248 →
    u = { s with clp := { s.clp with
      silence := 0, silent := false
      counters := { s.clp.counters with
        valid := if s.clp.counters.valid < 4294967295 then s.clp.counters.valid + 1 else 4294967295 } } } →
    (c.length = 2 → c ≠ crcBytes (crcOf (BitVec.ofNat 8 f.payload.length :: f.kind :: f.tag :: f.payload)) →
      exec (.validFrame (0x5A :: (BitVec.ofNat 8 f.payload.length :: f.kind :: f.tag :: f.payload ++ c))) s =
        .next (startTx { s with clp := { s.clp with
          counters := { s.clp.counters with
            crc := if s.clp.counters.crc < 4294967295 then s.clp.counters.crc + 1 else 4294967295 } } })) ∧
    (128 ≤ f.kind.toNat → exec (.validFrame (Frame.wire f)) s = .next (startTx { s with clp := { s.clp with
      counters := { s.clp.counters with
        format := if s.clp.counters.format < 4294967295 then s.clp.counters.format + 1 else 4294967295 } } })) ∧
    (f.kind.toNat < 128 → Request.parse f.kind f.payload = .badLength f.kind → s.linkFree →
      exec (.validFrame (Frame.wire f)) s =
        .next (withReply ⟨f.kind + 0x80, f.tag, [0x11]⟩ (if s.clp.silent then formPermit u else u))))

/-! ### Invariants that every step keeps -/

/-- Every step keeps the volume balance (R144). -/
def Obligations.VolumeBalanceKept : Prop :=
  ∀ s t : State, s.volumeBalanced → step s = .next t → t.volumeBalanced

/-- Every step keeps the part still under E-stop (R51, R90, R176). -/
def Obligations.EStopSafeKept : Prop :=
  ∀ s t : State, s.eStopSafe → step s = .next t → t.eStopSafe

/-- After every step the permit and its reasons are what R174 gives for the inputs as they stand, and the two lines have the levels
that R175 gives for it. -/
def Obligations.PermitFormedKept : Prop :=
  (∀ s t : State, s.permitFormed → step s = .next t → t.permitFormed) ∧
  ∀ s : State, (s.slowLine = true ↔ s.tqs.permit ≠ .go) ∧ (s.stopLine = true ↔ s.tqs.permit = .stop)

/-- Every step keeps the order of buffer, slot and transmitter (R191 to R193). After every command but POWER_ON_RESET an IDLE
transmitter has nothing left to send: no reply waits, no request, and no report is pending (R193, log entry 8). -/
def Obligations.LinkOrderKept : Prop :=
  (∀ s t : State, s.linkOrdered → step s = .next t → t.linkOrdered) ∧
  ∀ (c : Instr) (s t : State), s.linkOrdered → c ≠ .powerOnReset → exec c s = .next t → t.clp.tx = none →
    t.clp.slot = none ∧ t.clp.buffer = [] ∧ t.clp.waiting = 0

/-- Every step keeps each valve 0 in OFF and HELD and within Vmax, and the hold causes with HELD alone (R44, R70). -/
def Obligations.ChannelsSoundKept : Prop :=
  ∀ s t : State, s.channelsSound → step s = .next t → t.channelsSound

/-- Every step keeps the plan and the staging list in start order without overlap (R18, R27, R30, R34). -/
def Obligations.PlanOrderKept : Prop :=
  ∀ s t : State, s.planOrdered → step s = .next t → t.planOrdered

/-- Every step keeps the truck queue and the conveyor consistent (R161, R166 to R170). -/
def Obligations.TrucksSoundKept : Prop :=
  ∀ s t : State, s.trucksSound → step s = .next t → t.trucksSound

/-- Every step keeps the travel marks: hw at or above chainage and below both boundaries, and the grid of 100 mm (R4, R9, R10). -/
def Obligations.TravelMarksKept : Prop :=
  ∀ s t : State, s.travelSound → step s = .next t → t.travelSound

/-- The reset state has every one of these invariants. -/
def Obligations.InvariantsAtReset : Prop :=
  State.reset.volumeBalanced ∧ State.reset.eStopSafe ∧ State.reset.permitFormed ∧ State.reset.linkOrdered ∧
  State.reset.channelsSound ∧ State.reset.planOrdered ∧ State.reset.trucksSound ∧ State.reset.travelSound
end

