-- ==== Sys2Proof/Laws/State.lean ====
section
/-! SUPPORT. The small lemmas of the named updates of State. -/

namespace Sys2Proof.Machine

/-- Two states equal field by field. -/
theorem State.eq_of_fields {s t : State} (h1 : s.now = t.now) (h2 : s.eStop = t.eStop) (h3 : s.trc = t.trc)
    (h4 : s.plt = t.plt) (h5 : s.chL = t.chL) (h6 : s.chR = t.chR) (h7 : s.target = t.target)
    (h8 : s.slopeRaw = t.slopeRaw) (h9 : s.mlc = t.mlc) (h10 : s.spr = t.spr) (h11 : s.chd = t.chd) (h12 : s.cst = t.cst)
    (h13 : s.load = t.load) (h14 : s.tqs = t.tqs) (h15 : s.mpr = t.mpr) (h16 : s.clp = t.clp)
    (h17 : s.freeUsed = t.freeUsed) (h18 : s.pending = t.pending) : s = t := by
  cases s
  cases t
  simp only at *
  subst h1 h2 h3 h4 h5 h6 h7 h8 h9 h10 h11 h12 h13 h14 h15 h16 h17 h18
  rfl

/-! ### A channel replaced -/

@[simp] theorem setCh_ch (s : State) (x : Side) (c : Channel) : (s.setCh x c).ch x = c := by cases x <;> rfl

@[simp] theorem setCh_ch_other (s : State) (x : Side) (c : Channel) : (s.setCh x c).ch x.other = s.ch x.other := by
  cases x <;> rfl

@[simp] theorem setCh_L (s : State) (c : Channel) : s.setCh .L c = { s with chL := c } := (rfl)

@[simp] theorem setCh_R (s : State) (c : Channel) : s.setCh .R c = { s with chR := c } := (rfl)

@[simp] theorem ch_L (s : State) : s.ch .L = s.chL := (rfl)

@[simp] theorem ch_R (s : State) : s.ch .R = s.chR := (rfl)

/-- The fields beside the two channels stay. -/
@[simp] theorem setCh_frame (s : State) (x : Side) (c : Channel) :
    (s.setCh x c).now = s.now ∧ (s.setCh x c).eStop = s.eStop ∧ (s.setCh x c).trc = s.trc ∧ (s.setCh x c).plt = s.plt ∧
    (s.setCh x c).target = s.target ∧ (s.setCh x c).slopeRaw = s.slopeRaw ∧ (s.setCh x c).mlc = s.mlc ∧
    (s.setCh x c).spr = s.spr ∧ (s.setCh x c).chd = s.chd ∧ (s.setCh x c).cst = s.cst ∧ (s.setCh x c).load = s.load ∧
    (s.setCh x c).tqs = s.tqs ∧ (s.setCh x c).mpr = s.mpr ∧ (s.setCh x c).clp = s.clp ∧
    (s.setCh x c).freeUsed = s.freeUsed ∧ (s.setCh x c).pending = s.pending := by
  cases x <;> (and_intros <;> rfl)

/-! ### The SLOW and STOP lines (R175) -/

@[simp] theorem slowLine_go : Permit.go.slowLine = false := (rfl)
@[simp] theorem slowLine_slow : Permit.slow.slowLine = true := (rfl)
@[simp] theorem slowLine_stop : Permit.stop.slowLine = true := (rfl)
@[simp] theorem stopLine_go : Permit.go.stopLine = false := (rfl)
@[simp] theorem stopLine_slow : Permit.slow.stopLine = false := (rfl)
@[simp] theorem stopLine_stop : Permit.stop.stopLine = true := (rfl)

end Sys2Proof.Machine
end

