-- ==== Sys2Proof/Laws/Ops.lean ====
section
/-! SUPPORT. What each shared operation leaves alone, one lemma per operation: the fields of State it does not touch, and of CLP
all but the pending-report set. -/

namespace Sys2Proof.Machine

@[simp] theorem queueReport_frame (k : ReportKind) (s : State) :
    (queueReport k s).now = s.now ∧ (queueReport k s).eStop = s.eStop ∧ (queueReport k s).trc = s.trc ∧
    (queueReport k s).plt = s.plt ∧ (queueReport k s).chL = s.chL ∧ (queueReport k s).chR = s.chR ∧
    (queueReport k s).target = s.target ∧ (queueReport k s).slopeRaw = s.slopeRaw ∧ (queueReport k s).mlc = s.mlc ∧
    (queueReport k s).spr = s.spr ∧ (queueReport k s).chd = s.chd ∧ (queueReport k s).cst = s.cst ∧
    (queueReport k s).load = s.load ∧ (queueReport k s).tqs = s.tqs ∧ (queueReport k s).mpr = s.mpr ∧
    (queueReport k s).freeUsed = s.freeUsed ∧ (queueReport k s).pending = s.pending ∧ (queueReport k s).clp.rx = s.clp.rx ∧
    (queueReport k s).clp.buffer = s.clp.buffer ∧ (queueReport k s).clp.slot = s.clp.slot ∧
    (queueReport k s).clp.tx = s.clp.tx ∧ (queueReport k s).clp.enabled = s.clp.enabled ∧
    (queueReport k s).clp.silent = s.clp.silent ∧ (queueReport k s).clp.silence = s.clp.silence ∧
    (queueReport k s).clp.telemetry = s.clp.telemetry ∧ (queueReport k s).clp.counters = s.clp.counters := by
  simp only [queueReport]
  (repeat' split) <;> simp

@[simp] theorem queueIf_frame (b : Bool) (k : ReportKind) (s : State) :
    (queueIf b k s).now = s.now ∧ (queueIf b k s).eStop = s.eStop ∧ (queueIf b k s).trc = s.trc ∧
    (queueIf b k s).plt = s.plt ∧ (queueIf b k s).chL = s.chL ∧ (queueIf b k s).chR = s.chR ∧
    (queueIf b k s).target = s.target ∧ (queueIf b k s).slopeRaw = s.slopeRaw ∧ (queueIf b k s).mlc = s.mlc ∧
    (queueIf b k s).spr = s.spr ∧ (queueIf b k s).chd = s.chd ∧ (queueIf b k s).cst = s.cst ∧
    (queueIf b k s).load = s.load ∧ (queueIf b k s).tqs = s.tqs ∧ (queueIf b k s).mpr = s.mpr ∧
    (queueIf b k s).freeUsed = s.freeUsed ∧ (queueIf b k s).pending = s.pending ∧ (queueIf b k s).clp.rx = s.clp.rx ∧
    (queueIf b k s).clp.buffer = s.clp.buffer ∧ (queueIf b k s).clp.slot = s.clp.slot ∧ (queueIf b k s).clp.tx = s.clp.tx ∧
    (queueIf b k s).clp.enabled = s.clp.enabled ∧ (queueIf b k s).clp.silent = s.clp.silent ∧
    (queueIf b k s).clp.silence = s.clp.silence ∧ (queueIf b k s).clp.telemetry = s.clp.telemetry ∧
    (queueIf b k s).clp.counters = s.clp.counters := by
  simp only [queueIf]
  (repeat' split) <;> simp

@[simp] theorem captureFault_frame (f : Flag) (s : State) :
    (captureFault f s).now = s.now ∧ (captureFault f s).eStop = s.eStop ∧ (captureFault f s).trc = s.trc ∧
    (captureFault f s).plt = s.plt ∧ (captureFault f s).chL = s.chL ∧ (captureFault f s).chR = s.chR ∧
    (captureFault f s).target = s.target ∧ (captureFault f s).slopeRaw = s.slopeRaw ∧ (captureFault f s).mlc = s.mlc ∧
    (captureFault f s).spr = s.spr ∧ (captureFault f s).chd = s.chd ∧ (captureFault f s).load = s.load ∧
    (captureFault f s).tqs = s.tqs ∧ (captureFault f s).mpr = s.mpr ∧ (captureFault f s).freeUsed = s.freeUsed ∧
    (captureFault f s).pending = s.pending ∧ (captureFault f s).clp.rx = s.clp.rx ∧
    (captureFault f s).clp.buffer = s.clp.buffer ∧ (captureFault f s).clp.slot = s.clp.slot ∧
    (captureFault f s).clp.tx = s.clp.tx ∧ (captureFault f s).clp.enabled = s.clp.enabled ∧
    (captureFault f s).clp.silent = s.clp.silent ∧ (captureFault f s).clp.silence = s.clp.silence ∧
    (captureFault f s).clp.telemetry = s.clp.telemetry ∧ (captureFault f s).clp.counters = s.clp.counters := by
  simp [captureFault]

@[simp] theorem setFlag_frame (f : Flag) (s : State) :
    (setFlag f s).now = s.now ∧ (setFlag f s).eStop = s.eStop ∧ (setFlag f s).trc = s.trc ∧ (setFlag f s).plt = s.plt ∧
    (setFlag f s).chL = s.chL ∧ (setFlag f s).chR = s.chR ∧ (setFlag f s).target = s.target ∧
    (setFlag f s).slopeRaw = s.slopeRaw ∧ (setFlag f s).mlc = s.mlc ∧ (setFlag f s).spr = s.spr ∧
    (setFlag f s).chd = s.chd ∧ (setFlag f s).load = s.load ∧ (setFlag f s).tqs = s.tqs ∧ (setFlag f s).mpr = s.mpr ∧
    (setFlag f s).freeUsed = s.freeUsed ∧ (setFlag f s).pending = s.pending ∧ (setFlag f s).clp.rx = s.clp.rx ∧
    (setFlag f s).clp.buffer = s.clp.buffer ∧ (setFlag f s).clp.slot = s.clp.slot ∧ (setFlag f s).clp.tx = s.clp.tx ∧
    (setFlag f s).clp.enabled = s.clp.enabled ∧ (setFlag f s).clp.silent = s.clp.silent ∧
    (setFlag f s).clp.silence = s.clp.silence ∧ (setFlag f s).clp.telemetry = s.clp.telemetry ∧
    (setFlag f s).clp.counters = s.clp.counters := by
  simp only [setFlag]
  (repeat' split) <;> simp

@[simp] theorem setFlagIf_frame (b : Bool) (f : Flag) (s : State) :
    (setFlagIf b f s).now = s.now ∧ (setFlagIf b f s).eStop = s.eStop ∧ (setFlagIf b f s).trc = s.trc ∧
    (setFlagIf b f s).plt = s.plt ∧ (setFlagIf b f s).chL = s.chL ∧ (setFlagIf b f s).chR = s.chR ∧
    (setFlagIf b f s).target = s.target ∧ (setFlagIf b f s).slopeRaw = s.slopeRaw ∧ (setFlagIf b f s).mlc = s.mlc ∧
    (setFlagIf b f s).spr = s.spr ∧ (setFlagIf b f s).chd = s.chd ∧ (setFlagIf b f s).load = s.load ∧
    (setFlagIf b f s).tqs = s.tqs ∧ (setFlagIf b f s).mpr = s.mpr ∧ (setFlagIf b f s).freeUsed = s.freeUsed ∧
    (setFlagIf b f s).pending = s.pending ∧ (setFlagIf b f s).clp.rx = s.clp.rx ∧
    (setFlagIf b f s).clp.buffer = s.clp.buffer ∧ (setFlagIf b f s).clp.slot = s.clp.slot ∧
    (setFlagIf b f s).clp.tx = s.clp.tx ∧ (setFlagIf b f s).clp.enabled = s.clp.enabled ∧
    (setFlagIf b f s).clp.silent = s.clp.silent ∧ (setFlagIf b f s).clp.silence = s.clp.silence ∧
    (setFlagIf b f s).clp.telemetry = s.clp.telemetry ∧ (setFlagIf b f s).clp.counters = s.clp.counters := by
  simp only [setFlagIf]
  (repeat' split) <;> simp

@[simp] theorem clearFlags_frame (m : BitVec 13) (s : State) :
    (clearFlags m s).now = s.now ∧ (clearFlags m s).eStop = s.eStop ∧ (clearFlags m s).trc = s.trc ∧
    (clearFlags m s).plt = s.plt ∧ (clearFlags m s).chL = s.chL ∧ (clearFlags m s).chR = s.chR ∧
    (clearFlags m s).target = s.target ∧ (clearFlags m s).slopeRaw = s.slopeRaw ∧ (clearFlags m s).mlc = s.mlc ∧
    (clearFlags m s).spr = s.spr ∧ (clearFlags m s).chd = s.chd ∧ (clearFlags m s).load = s.load ∧
    (clearFlags m s).tqs = s.tqs ∧ (clearFlags m s).mpr = s.mpr ∧ (clearFlags m s).clp = s.clp ∧
    (clearFlags m s).freeUsed = s.freeUsed ∧ (clearFlags m s).pending = s.pending := by
  simp [clearFlags]

@[simp] theorem formPermit_frame (s : State) :
    (formPermit s).now = s.now ∧ (formPermit s).eStop = s.eStop ∧ (formPermit s).trc = s.trc ∧ (formPermit s).plt = s.plt ∧
    (formPermit s).chL = s.chL ∧ (formPermit s).chR = s.chR ∧ (formPermit s).target = s.target ∧
    (formPermit s).slopeRaw = s.slopeRaw ∧ (formPermit s).mlc = s.mlc ∧ (formPermit s).spr = s.spr ∧
    (formPermit s).chd = s.chd ∧ (formPermit s).cst = s.cst ∧ (formPermit s).load = s.load ∧ (formPermit s).mpr = s.mpr ∧
    (formPermit s).freeUsed = s.freeUsed ∧ (formPermit s).pending = s.pending ∧ (formPermit s).clp.rx = s.clp.rx ∧
    (formPermit s).clp.buffer = s.clp.buffer ∧ (formPermit s).clp.slot = s.clp.slot ∧ (formPermit s).clp.tx = s.clp.tx ∧
    (formPermit s).clp.enabled = s.clp.enabled ∧ (formPermit s).clp.silent = s.clp.silent ∧
    (formPermit s).clp.silence = s.clp.silence ∧ (formPermit s).clp.telemetry = s.clp.telemetry ∧
    (formPermit s).clp.counters = s.clp.counters := by
  simp [formPermit]

@[simp] theorem setCauses_frame (c : LiftCauses) (s : State) :
    (setCauses c s).now = s.now ∧ (setCauses c s).eStop = s.eStop ∧ (setCauses c s).trc = s.trc ∧
    (setCauses c s).plt = s.plt ∧ (setCauses c s).chL = s.chL ∧ (setCauses c s).chR = s.chR ∧
    (setCauses c s).target = s.target ∧ (setCauses c s).slopeRaw = s.slopeRaw ∧ (setCauses c s).spr = s.spr ∧
    (setCauses c s).chd = s.chd ∧ (setCauses c s).cst = s.cst ∧ (setCauses c s).load = s.load ∧
    (setCauses c s).tqs = s.tqs ∧ (setCauses c s).mpr = s.mpr ∧ (setCauses c s).freeUsed = s.freeUsed ∧
    (setCauses c s).pending = s.pending ∧ (setCauses c s).clp.rx = s.clp.rx ∧ (setCauses c s).clp.buffer = s.clp.buffer ∧
    (setCauses c s).clp.slot = s.clp.slot ∧ (setCauses c s).clp.tx = s.clp.tx ∧
    (setCauses c s).clp.enabled = s.clp.enabled ∧ (setCauses c s).clp.silent = s.clp.silent ∧
    (setCauses c s).clp.silence = s.clp.silence ∧ (setCauses c s).clp.telemetry = s.clp.telemetry ∧
    (setCauses c s).clp.counters = s.clp.counters := by
  simp only [setCauses]
  (repeat' split) <;> simp

@[simp] theorem reformPlan_frame (s : State) :
    (reformPlan s).now = s.now ∧ (reformPlan s).eStop = s.eStop ∧ (reformPlan s).trc = s.trc ∧ (reformPlan s).plt = s.plt ∧
    (reformPlan s).chL = s.chL ∧ (reformPlan s).chR = s.chR ∧ (reformPlan s).target = s.target ∧
    (reformPlan s).slopeRaw = s.slopeRaw ∧ (reformPlan s).spr = s.spr ∧ (reformPlan s).chd = s.chd ∧
    (reformPlan s).cst = s.cst ∧ (reformPlan s).load = s.load ∧ (reformPlan s).tqs = s.tqs ∧ (reformPlan s).mpr = s.mpr ∧
    (reformPlan s).freeUsed = s.freeUsed ∧ (reformPlan s).pending = s.pending ∧ (reformPlan s).clp.rx = s.clp.rx ∧
    (reformPlan s).clp.buffer = s.clp.buffer ∧ (reformPlan s).clp.slot = s.clp.slot ∧ (reformPlan s).clp.tx = s.clp.tx ∧
    (reformPlan s).clp.enabled = s.clp.enabled ∧ (reformPlan s).clp.silent = s.clp.silent ∧
    (reformPlan s).clp.silence = s.clp.silence ∧ (reformPlan s).clp.telemetry = s.clp.telemetry ∧
    (reformPlan s).clp.counters = s.clp.counters := by
  simp [reformPlan]

@[simp] theorem reformWindow_frame (s : State) :
    (reformWindow s).now = s.now ∧ (reformWindow s).eStop = s.eStop ∧ (reformWindow s).trc = s.trc ∧
    (reformWindow s).plt = s.plt ∧ (reformWindow s).chL = s.chL ∧ (reformWindow s).chR = s.chR ∧
    (reformWindow s).target = s.target ∧ (reformWindow s).slopeRaw = s.slopeRaw ∧ (reformWindow s).spr = s.spr ∧
    (reformWindow s).chd = s.chd ∧ (reformWindow s).cst = s.cst ∧ (reformWindow s).load = s.load ∧
    (reformWindow s).tqs = s.tqs ∧ (reformWindow s).mpr = s.mpr ∧ (reformWindow s).freeUsed = s.freeUsed ∧
    (reformWindow s).pending = s.pending ∧ (reformWindow s).clp.rx = s.clp.rx ∧
    (reformWindow s).clp.buffer = s.clp.buffer ∧ (reformWindow s).clp.slot = s.clp.slot ∧
    (reformWindow s).clp.tx = s.clp.tx ∧ (reformWindow s).clp.enabled = s.clp.enabled ∧
    (reformWindow s).clp.silent = s.clp.silent ∧ (reformWindow s).clp.silence = s.clp.silence ∧
    (reformWindow s).clp.telemetry = s.clp.telemetry ∧ (reformWindow s).clp.counters = s.clp.counters := by
  simp [reformWindow]

@[simp] theorem keepDisposition_frame (s : State) :
    (keepDisposition s).now = s.now ∧ (keepDisposition s).eStop = s.eStop ∧ (keepDisposition s).trc = s.trc ∧
    (keepDisposition s).chL = s.chL ∧ (keepDisposition s).chR = s.chR ∧ (keepDisposition s).target = s.target ∧
    (keepDisposition s).slopeRaw = s.slopeRaw ∧ (keepDisposition s).mlc = s.mlc ∧ (keepDisposition s).spr = s.spr ∧
    (keepDisposition s).chd = s.chd ∧ (keepDisposition s).cst = s.cst ∧ (keepDisposition s).load = s.load ∧
    (keepDisposition s).tqs = s.tqs ∧ (keepDisposition s).mpr = s.mpr ∧ (keepDisposition s).clp = s.clp ∧
    (keepDisposition s).freeUsed = s.freeUsed ∧ (keepDisposition s).pending = s.pending := by
  simp [keepDisposition]

@[simp] theorem reformDisposition_frame (s : State) :
    (reformDisposition s).now = s.now ∧ (reformDisposition s).eStop = s.eStop ∧ (reformDisposition s).trc = s.trc ∧
    (reformDisposition s).chL = s.chL ∧ (reformDisposition s).chR = s.chR ∧ (reformDisposition s).target = s.target ∧
    (reformDisposition s).slopeRaw = s.slopeRaw ∧ (reformDisposition s).spr = s.spr ∧ (reformDisposition s).chd = s.chd ∧
    (reformDisposition s).cst = s.cst ∧ (reformDisposition s).load = s.load ∧ (reformDisposition s).mpr = s.mpr ∧
    (reformDisposition s).freeUsed = s.freeUsed ∧ (reformDisposition s).pending = s.pending ∧
    (reformDisposition s).clp.rx = s.clp.rx ∧ (reformDisposition s).clp.buffer = s.clp.buffer ∧
    (reformDisposition s).clp.slot = s.clp.slot ∧ (reformDisposition s).clp.tx = s.clp.tx ∧
    (reformDisposition s).clp.enabled = s.clp.enabled ∧ (reformDisposition s).clp.silent = s.clp.silent ∧
    (reformDisposition s).clp.silence = s.clp.silence ∧ (reformDisposition s).clp.telemetry = s.clp.telemetry ∧
    (reformDisposition s).clp.counters = s.clp.counters := by
  simp only [reformDisposition]
  (repeat' split) <;> simp

@[simp] theorem changeChannel_frame (x : Side) (c : Channel) (s : State) :
    (changeChannel x c s).now = s.now ∧ (changeChannel x c s).eStop = s.eStop ∧ (changeChannel x c s).trc = s.trc ∧
    (changeChannel x c s).plt = s.plt ∧ (changeChannel x c s).target = s.target ∧
    (changeChannel x c s).slopeRaw = s.slopeRaw ∧ (changeChannel x c s).mlc = s.mlc ∧ (changeChannel x c s).spr = s.spr ∧
    (changeChannel x c s).chd = s.chd ∧ (changeChannel x c s).cst = s.cst ∧ (changeChannel x c s).load = s.load ∧
    (changeChannel x c s).tqs = s.tqs ∧ (changeChannel x c s).mpr = s.mpr ∧ (changeChannel x c s).freeUsed = s.freeUsed ∧
    (changeChannel x c s).pending = s.pending ∧ (changeChannel x c s).clp.rx = s.clp.rx ∧
    (changeChannel x c s).clp.buffer = s.clp.buffer ∧ (changeChannel x c s).clp.slot = s.clp.slot ∧
    (changeChannel x c s).clp.tx = s.clp.tx ∧ (changeChannel x c s).clp.enabled = s.clp.enabled ∧
    (changeChannel x c s).clp.silent = s.clp.silent ∧ (changeChannel x c s).clp.silence = s.clp.silence ∧
    (changeChannel x c s).clp.telemetry = s.clp.telemetry ∧ (changeChannel x c s).clp.counters = s.clp.counters := by
  simp [changeChannel]

@[simp] theorem dropManual_frame (s : State) :
    (dropManual s).now = s.now ∧ (dropManual s).eStop = s.eStop ∧ (dropManual s).trc = s.trc ∧ (dropManual s).plt = s.plt ∧
    (dropManual s).chL = s.chL ∧ (dropManual s).chR = s.chR ∧ (dropManual s).target = s.target ∧
    (dropManual s).slopeRaw = s.slopeRaw ∧ (dropManual s).spr = s.spr ∧ (dropManual s).chd = s.chd ∧
    (dropManual s).cst = s.cst ∧ (dropManual s).load = s.load ∧ (dropManual s).tqs = s.tqs ∧ (dropManual s).mpr = s.mpr ∧
    (dropManual s).freeUsed = s.freeUsed ∧ (dropManual s).pending = s.pending ∧ (dropManual s).clp.rx = s.clp.rx ∧
    (dropManual s).clp.buffer = s.clp.buffer ∧ (dropManual s).clp.slot = s.clp.slot ∧ (dropManual s).clp.tx = s.clp.tx ∧
    (dropManual s).clp.enabled = s.clp.enabled ∧ (dropManual s).clp.silent = s.clp.silent ∧
    (dropManual s).clp.silence = s.clp.silence ∧ (dropManual s).clp.telemetry = s.clp.telemetry ∧
    (dropManual s).clp.counters = s.clp.counters := by
  simp [dropManual]

@[simp] theorem enterOff_frame (x : Side) (s : State) :
    (enterOff x s).now = s.now ∧ (enterOff x s).eStop = s.eStop ∧ (enterOff x s).trc = s.trc ∧ (enterOff x s).plt = s.plt ∧
    (enterOff x s).target = s.target ∧ (enterOff x s).slopeRaw = s.slopeRaw ∧ (enterOff x s).spr = s.spr ∧
    (enterOff x s).chd = s.chd ∧ (enterOff x s).cst = s.cst ∧ (enterOff x s).load = s.load ∧ (enterOff x s).tqs = s.tqs ∧
    (enterOff x s).mpr = s.mpr ∧ (enterOff x s).freeUsed = s.freeUsed ∧ (enterOff x s).pending = s.pending ∧
    (enterOff x s).clp.rx = s.clp.rx ∧ (enterOff x s).clp.buffer = s.clp.buffer ∧ (enterOff x s).clp.slot = s.clp.slot ∧
    (enterOff x s).clp.tx = s.clp.tx ∧ (enterOff x s).clp.enabled = s.clp.enabled ∧
    (enterOff x s).clp.silent = s.clp.silent ∧ (enterOff x s).clp.silence = s.clp.silence ∧
    (enterOff x s).clp.telemetry = s.clp.telemetry ∧ (enterOff x s).clp.counters = s.clp.counters := by
  simp only [enterOff]
  (repeat' split) <;> simp

@[simp] theorem linkHold_frame (x : Side) (s : State) :
    (linkHold x s).now = s.now ∧ (linkHold x s).eStop = s.eStop ∧ (linkHold x s).trc = s.trc ∧ (linkHold x s).plt = s.plt ∧
    (linkHold x s).target = s.target ∧ (linkHold x s).slopeRaw = s.slopeRaw ∧ (linkHold x s).spr = s.spr ∧
    (linkHold x s).chd = s.chd ∧ (linkHold x s).cst = s.cst ∧ (linkHold x s).load = s.load ∧ (linkHold x s).tqs = s.tqs ∧
    (linkHold x s).mpr = s.mpr ∧ (linkHold x s).freeUsed = s.freeUsed ∧ (linkHold x s).pending = s.pending ∧
    (linkHold x s).clp.rx = s.clp.rx ∧ (linkHold x s).clp.buffer = s.clp.buffer ∧ (linkHold x s).clp.slot = s.clp.slot ∧
    (linkHold x s).clp.tx = s.clp.tx ∧ (linkHold x s).clp.enabled = s.clp.enabled ∧
    (linkHold x s).clp.silent = s.clp.silent ∧ (linkHold x s).clp.silence = s.clp.silence ∧
    (linkHold x s).clp.telemetry = s.clp.telemetry ∧ (linkHold x s).clp.counters = s.clp.counters := by
  simp only [linkHold]
  (repeat' split) <;> simp

@[simp] theorem enterConveyor_frame (v : Conveyor) (c : Int) (s : State) :
    (enterConveyor v c s).now = s.now ∧ (enterConveyor v c s).eStop = s.eStop ∧ (enterConveyor v c s).trc = s.trc ∧
    (enterConveyor v c s).plt = s.plt ∧ (enterConveyor v c s).chL = s.chL ∧ (enterConveyor v c s).chR = s.chR ∧
    (enterConveyor v c s).target = s.target ∧ (enterConveyor v c s).slopeRaw = s.slopeRaw ∧
    (enterConveyor v c s).mlc = s.mlc ∧ (enterConveyor v c s).spr = s.spr ∧ (enterConveyor v c s).chd = s.chd ∧
    (enterConveyor v c s).cst = s.cst ∧ (enterConveyor v c s).load = s.load ∧ (enterConveyor v c s).mpr = s.mpr ∧
    (enterConveyor v c s).freeUsed = s.freeUsed ∧ (enterConveyor v c s).pending = s.pending ∧
    (enterConveyor v c s).clp.rx = s.clp.rx ∧ (enterConveyor v c s).clp.buffer = s.clp.buffer ∧
    (enterConveyor v c s).clp.slot = s.clp.slot ∧ (enterConveyor v c s).clp.tx = s.clp.tx ∧
    (enterConveyor v c s).clp.enabled = s.clp.enabled ∧ (enterConveyor v c s).clp.silent = s.clp.silent ∧
    (enterConveyor v c s).clp.silence = s.clp.silence ∧ (enterConveyor v c s).clp.telemetry = s.clp.telemetry ∧
    (enterConveyor v c s).clp.counters = s.clp.counters := by
  simp [enterConveyor]

@[simp] theorem toppingTest_frame (s : State) :
    (toppingTest s).now = s.now ∧ (toppingTest s).eStop = s.eStop ∧ (toppingTest s).trc = s.trc ∧
    (toppingTest s).plt = s.plt ∧ (toppingTest s).chL = s.chL ∧ (toppingTest s).chR = s.chR ∧
    (toppingTest s).target = s.target ∧ (toppingTest s).slopeRaw = s.slopeRaw ∧ (toppingTest s).mlc = s.mlc ∧
    (toppingTest s).spr = s.spr ∧ (toppingTest s).chd = s.chd ∧ (toppingTest s).cst = s.cst ∧
    (toppingTest s).load = s.load ∧ (toppingTest s).mpr = s.mpr ∧ (toppingTest s).freeUsed = s.freeUsed ∧
    (toppingTest s).pending = s.pending ∧ (toppingTest s).clp.rx = s.clp.rx ∧ (toppingTest s).clp.buffer = s.clp.buffer ∧
    (toppingTest s).clp.slot = s.clp.slot ∧ (toppingTest s).clp.tx = s.clp.tx ∧
    (toppingTest s).clp.enabled = s.clp.enabled ∧ (toppingTest s).clp.silent = s.clp.silent ∧
    (toppingTest s).clp.silence = s.clp.silence ∧ (toppingTest s).clp.telemetry = s.clp.telemetry ∧
    (toppingTest s).clp.counters = s.clp.counters := by
  simp only [toppingTest]
  (repeat' split) <;> simp

@[simp] theorem setHead_frame (f : Truck → Truck) (s : State) :
    (setHead f s).now = s.now ∧ (setHead f s).eStop = s.eStop ∧ (setHead f s).trc = s.trc ∧ (setHead f s).plt = s.plt ∧
    (setHead f s).chL = s.chL ∧ (setHead f s).chR = s.chR ∧ (setHead f s).target = s.target ∧
    (setHead f s).slopeRaw = s.slopeRaw ∧ (setHead f s).mlc = s.mlc ∧ (setHead f s).spr = s.spr ∧
    (setHead f s).chd = s.chd ∧ (setHead f s).cst = s.cst ∧ (setHead f s).load = s.load ∧ (setHead f s).mpr = s.mpr ∧
    (setHead f s).clp = s.clp ∧ (setHead f s).freeUsed = s.freeUsed ∧ (setHead f s).pending = s.pending := by
  simp only [setHead]
  (repeat' split) <;> simp

@[simp] theorem enterRunning_frame (s : State) :
    (enterRunning s).now = s.now ∧ (enterRunning s).eStop = s.eStop ∧ (enterRunning s).trc = s.trc ∧
    (enterRunning s).plt = s.plt ∧ (enterRunning s).chL = s.chL ∧ (enterRunning s).chR = s.chR ∧
    (enterRunning s).target = s.target ∧ (enterRunning s).slopeRaw = s.slopeRaw ∧ (enterRunning s).mlc = s.mlc ∧
    (enterRunning s).spr = s.spr ∧ (enterRunning s).chd = s.chd ∧ (enterRunning s).cst = s.cst ∧
    (enterRunning s).load = s.load ∧ (enterRunning s).mpr = s.mpr ∧ (enterRunning s).freeUsed = s.freeUsed ∧
    (enterRunning s).pending = s.pending ∧ (enterRunning s).clp.rx = s.clp.rx ∧
    (enterRunning s).clp.buffer = s.clp.buffer ∧ (enterRunning s).clp.slot = s.clp.slot ∧
    (enterRunning s).clp.tx = s.clp.tx ∧ (enterRunning s).clp.enabled = s.clp.enabled ∧
    (enterRunning s).clp.silent = s.clp.silent ∧ (enterRunning s).clp.silence = s.clp.silence ∧
    (enterRunning s).clp.telemetry = s.clp.telemetry ∧ (enterRunning s).clp.counters = s.clp.counters := by
  simp [enterRunning]

@[simp] theorem stopConveyor_frame (s : State) :
    (stopConveyor s).now = s.now ∧ (stopConveyor s).eStop = s.eStop ∧ (stopConveyor s).trc = s.trc ∧
    (stopConveyor s).plt = s.plt ∧ (stopConveyor s).chL = s.chL ∧ (stopConveyor s).chR = s.chR ∧
    (stopConveyor s).target = s.target ∧ (stopConveyor s).slopeRaw = s.slopeRaw ∧ (stopConveyor s).mlc = s.mlc ∧
    (stopConveyor s).spr = s.spr ∧ (stopConveyor s).chd = s.chd ∧ (stopConveyor s).cst = s.cst ∧
    (stopConveyor s).load = s.load ∧ (stopConveyor s).mpr = s.mpr ∧ (stopConveyor s).freeUsed = s.freeUsed ∧
    (stopConveyor s).pending = s.pending ∧ (stopConveyor s).clp.rx = s.clp.rx ∧
    (stopConveyor s).clp.buffer = s.clp.buffer ∧ (stopConveyor s).clp.slot = s.clp.slot ∧
    (stopConveyor s).clp.tx = s.clp.tx ∧ (stopConveyor s).clp.enabled = s.clp.enabled ∧
    (stopConveyor s).clp.silent = s.clp.silent ∧ (stopConveyor s).clp.silence = s.clp.silence ∧
    (stopConveyor s).clp.telemetry = s.clp.telemetry ∧ (stopConveyor s).clp.counters = s.clp.counters := by
  simp [stopConveyor]

@[simp] theorem handListChange_frame (s : State) :
    (handListChange s).now = s.now ∧ (handListChange s).eStop = s.eStop ∧ (handListChange s).trc = s.trc ∧
    (handListChange s).plt = s.plt ∧ (handListChange s).chL = s.chL ∧ (handListChange s).chR = s.chR ∧
    (handListChange s).target = s.target ∧ (handListChange s).slopeRaw = s.slopeRaw ∧ (handListChange s).mlc = s.mlc ∧
    (handListChange s).spr = s.spr ∧ (handListChange s).chd = s.chd ∧ (handListChange s).cst = s.cst ∧
    (handListChange s).load = s.load ∧ (handListChange s).mpr = s.mpr ∧ (handListChange s).freeUsed = s.freeUsed ∧
    (handListChange s).pending = s.pending ∧ (handListChange s).clp.rx = s.clp.rx ∧
    (handListChange s).clp.buffer = s.clp.buffer ∧ (handListChange s).clp.slot = s.clp.slot ∧
    (handListChange s).clp.tx = s.clp.tx ∧ (handListChange s).clp.enabled = s.clp.enabled ∧
    (handListChange s).clp.silent = s.clp.silent ∧ (handListChange s).clp.silence = s.clp.silence ∧
    (handListChange s).clp.telemetry = s.clp.telemetry ∧ (handListChange s).clp.counters = s.clp.counters := by
  simp [handListChange]

@[simp] theorem recordEvent_frame (k : MarkerEventKind) (m : Marker) (s : State) :
    (recordEvent k m s).now = s.now ∧ (recordEvent k m s).eStop = s.eStop ∧ (recordEvent k m s).trc = s.trc ∧
    (recordEvent k m s).plt = s.plt ∧ (recordEvent k m s).chL = s.chL ∧ (recordEvent k m s).chR = s.chR ∧
    (recordEvent k m s).target = s.target ∧ (recordEvent k m s).slopeRaw = s.slopeRaw ∧ (recordEvent k m s).spr = s.spr ∧
    (recordEvent k m s).chd = s.chd ∧ (recordEvent k m s).cst = s.cst ∧ (recordEvent k m s).load = s.load ∧
    (recordEvent k m s).tqs = s.tqs ∧ (recordEvent k m s).mpr = s.mpr ∧ (recordEvent k m s).clp = s.clp ∧
    (recordEvent k m s).freeUsed = s.freeUsed ∧ (recordEvent k m s).pending = s.pending := by
  simp [recordEvent]

@[simp] theorem extendMarker_frame (m : Int) (k : Marker) (s : State) :
    (extendMarker m k s).now = s.now ∧ (extendMarker m k s).eStop = s.eStop ∧ (extendMarker m k s).trc = s.trc ∧
    (extendMarker m k s).plt = s.plt ∧ (extendMarker m k s).chL = s.chL ∧ (extendMarker m k s).chR = s.chR ∧
    (extendMarker m k s).target = s.target ∧ (extendMarker m k s).slopeRaw = s.slopeRaw ∧
    (extendMarker m k s).spr = s.spr ∧ (extendMarker m k s).chd = s.chd ∧ (extendMarker m k s).cst = s.cst ∧
    (extendMarker m k s).load = s.load ∧ (extendMarker m k s).tqs = s.tqs ∧ (extendMarker m k s).mpr = s.mpr ∧
    (extendMarker m k s).freeUsed = s.freeUsed ∧ (extendMarker m k s).pending = s.pending ∧
    (extendMarker m k s).clp.rx = s.clp.rx ∧ (extendMarker m k s).clp.buffer = s.clp.buffer ∧
    (extendMarker m k s).clp.slot = s.clp.slot ∧ (extendMarker m k s).clp.tx = s.clp.tx ∧
    (extendMarker m k s).clp.enabled = s.clp.enabled ∧ (extendMarker m k s).clp.silent = s.clp.silent ∧
    (extendMarker m k s).clp.silence = s.clp.silence ∧ (extendMarker m k s).clp.telemetry = s.clp.telemetry ∧
    (extendMarker m k s).clp.counters = s.clp.counters := by
  simp only [extendMarker]
  (repeat' split) <;> simp

@[simp] theorem createFromTrip_frame (m : Int) (s : State) :
    (createFromTrip m s).now = s.now ∧ (createFromTrip m s).eStop = s.eStop ∧ (createFromTrip m s).trc = s.trc ∧
    (createFromTrip m s).plt = s.plt ∧ (createFromTrip m s).chL = s.chL ∧ (createFromTrip m s).chR = s.chR ∧
    (createFromTrip m s).target = s.target ∧ (createFromTrip m s).slopeRaw = s.slopeRaw ∧
    (createFromTrip m s).spr = s.spr ∧ (createFromTrip m s).chd = s.chd ∧ (createFromTrip m s).cst = s.cst ∧
    (createFromTrip m s).load = s.load ∧ (createFromTrip m s).tqs = s.tqs ∧ (createFromTrip m s).mpr = s.mpr ∧
    (createFromTrip m s).freeUsed = s.freeUsed ∧ (createFromTrip m s).pending = s.pending ∧
    (createFromTrip m s).clp.rx = s.clp.rx ∧ (createFromTrip m s).clp.buffer = s.clp.buffer ∧
    (createFromTrip m s).clp.slot = s.clp.slot ∧ (createFromTrip m s).clp.tx = s.clp.tx ∧
    (createFromTrip m s).clp.enabled = s.clp.enabled ∧ (createFromTrip m s).clp.silent = s.clp.silent ∧
    (createFromTrip m s).clp.silence = s.clp.silence ∧ (createFromTrip m s).clp.telemetry = s.clp.telemetry ∧
    (createFromTrip m s).clp.counters = s.clp.counters := by
  simp only [createFromTrip, insertNewMarker]
  (repeat' split) <;> simp

@[simp] theorem takeTrip_frame (m : Int) (s : State) :
    (takeTrip m s).now = s.now ∧ (takeTrip m s).eStop = s.eStop ∧ (takeTrip m s).trc = s.trc ∧ (takeTrip m s).plt = s.plt ∧
    (takeTrip m s).chL = s.chL ∧ (takeTrip m s).chR = s.chR ∧ (takeTrip m s).target = s.target ∧
    (takeTrip m s).slopeRaw = s.slopeRaw ∧ (takeTrip m s).spr = s.spr ∧ (takeTrip m s).chd = s.chd ∧
    (takeTrip m s).cst = s.cst ∧ (takeTrip m s).load = s.load ∧ (takeTrip m s).tqs = s.tqs ∧ (takeTrip m s).mpr = s.mpr ∧
    (takeTrip m s).freeUsed = s.freeUsed ∧ (takeTrip m s).pending = s.pending ∧ (takeTrip m s).clp.rx = s.clp.rx ∧
    (takeTrip m s).clp.buffer = s.clp.buffer ∧ (takeTrip m s).clp.slot = s.clp.slot ∧ (takeTrip m s).clp.tx = s.clp.tx ∧
    (takeTrip m s).clp.enabled = s.clp.enabled ∧ (takeTrip m s).clp.silent = s.clp.silent ∧
    (takeTrip m s).clp.silence = s.clp.silence ∧ (takeTrip m s).clp.telemetry = s.clp.telemetry ∧
    (takeTrip m s).clp.counters = s.clp.counters := by
  simp only [takeTrip]
  (repeat' split) <;> simp

@[simp] theorem countFrames_frame (f : FrameCounters → FrameCounters) (s : State) :
    (countFrames f s).now = s.now ∧ (countFrames f s).eStop = s.eStop ∧ (countFrames f s).trc = s.trc ∧
    (countFrames f s).plt = s.plt ∧ (countFrames f s).chL = s.chL ∧ (countFrames f s).chR = s.chR ∧
    (countFrames f s).target = s.target ∧ (countFrames f s).slopeRaw = s.slopeRaw ∧ (countFrames f s).mlc = s.mlc ∧
    (countFrames f s).spr = s.spr ∧ (countFrames f s).chd = s.chd ∧ (countFrames f s).cst = s.cst ∧
    (countFrames f s).load = s.load ∧ (countFrames f s).tqs = s.tqs ∧ (countFrames f s).mpr = s.mpr ∧
    (countFrames f s).freeUsed = s.freeUsed ∧ (countFrames f s).pending = s.pending ∧ (countFrames f s).clp.rx = s.clp.rx ∧
    (countFrames f s).clp.buffer = s.clp.buffer ∧ (countFrames f s).clp.slot = s.clp.slot ∧
    (countFrames f s).clp.tx = s.clp.tx ∧ (countFrames f s).clp.waiting = s.clp.waiting ∧
    (countFrames f s).clp.enabled = s.clp.enabled ∧ (countFrames f s).clp.silent = s.clp.silent ∧
    (countFrames f s).clp.silence = s.clp.silence ∧ (countFrames f s).clp.telemetry = s.clp.telemetry := by
  simp [countFrames]

@[simp] theorem countScan_frame (f : ScanCounters → ScanCounters) (s : State) :
    (countScan f s).now = s.now ∧ (countScan f s).eStop = s.eStop ∧ (countScan f s).trc = s.trc ∧
    (countScan f s).plt = s.plt ∧ (countScan f s).chL = s.chL ∧ (countScan f s).chR = s.chR ∧
    (countScan f s).target = s.target ∧ (countScan f s).slopeRaw = s.slopeRaw ∧ (countScan f s).mlc = s.mlc ∧
    (countScan f s).chd = s.chd ∧ (countScan f s).cst = s.cst ∧ (countScan f s).load = s.load ∧
    (countScan f s).tqs = s.tqs ∧ (countScan f s).mpr = s.mpr ∧ (countScan f s).clp = s.clp ∧
    (countScan f s).freeUsed = s.freeUsed ∧ (countScan f s).pending = s.pending := by
  simp [countScan]

end Sys2Proof.Machine
end

