-- ==== Sys2Proof/Laws/Effects.lean ====
section
/-! SUPPORT. What each shared operation does to the fields it touches. -/

namespace Sys2Proof.Machine

/-! ### Reports and flags -/

/-- A queued kind joins the pending set when it is enabled (R194). -/
theorem queueReport_waiting (k : ReportKind) (s : State) :
    (queueReport k s).clp.waiting = s.clp.waiting ||| (k.bit &&& s.clp.enabled) := by
  have bits : ∀ i, i < 9 → k.bit.getLsbD i = decide (i = k.code) := by
    intro i hi
    rcases k <;> revert hi <;> revert i <;> decide
  unfold queueReport holdsKind
  split <;> rename_i h <;> ext i hi <;> simp only [← BitVec.getLsbD_eq_getElem, BitVec.getLsbD_or, BitVec.getLsbD_and]
  · rw [bits i hi]
    by_cases he : i = k.code
    · subst he; simp [h]
    · simp [he]
  · rw [bits i hi]
    by_cases he : i = k.code
    · subst he; simp [h]
    · simp [he]

/-- Queuing touches the pending set of CLP alone (R194). -/
theorem queueReport_clp (k : ReportKind) (s : State) :
    (queueReport k s).clp = { s.clp with waiting := s.clp.waiting ||| (k.bit &&& s.clp.enabled) } := by
  rw [← queueReport_waiting]
  unfold queueReport
  split <;> rfl

/-- A queued report as one update of the state (R194). -/
theorem queueReport_eq (k : ReportKind) (s : State) :
    queueReport k s =
      { s with clp := { s.clp with waiting := s.clp.waiting ||| (k.bit &&& s.clp.enabled) } } := by
  rw [← queueReport_waiting]
  unfold queueReport
  split <;> rfl

/-- A report queued on a condition. -/
theorem queueIf_clp (b : Bool) (k : ReportKind) (s : State) :
    (queueIf b k s).clp =
      { s.clp with waiting := if b then s.clp.waiting ||| (k.bit &&& s.clp.enabled) else s.clp.waiting } := by
  cases b
  · rfl
  · exact queueReport_clp k s

@[simp] theorem queueIf_true (k : ReportKind) (s : State) : queueIf true k s = queueReport k s := rfl

@[simp] theorem queueIf_false (k : ReportKind) (s : State) : queueIf false k s = s := rfl

/-- A set flag is set, and the others stay (R132). -/
theorem setFlag_flags (f : Flag) (s : State) : (setFlag f s).cst.flags = s.cst.flags ||| f.bit := by
  have hb : s.flagSet f = true → s.cst.flags = s.cst.flags ||| f.bit := by
    intro h
    ext i hi
    simp only [State.flagSet, Flag.bit] at *
    by_cases he : f.code = i
    · subst he; simp_all
    · by_cases hlt : i < f.code
      · simp [hlt]
      · have : i - f.code ≠ 0 := by omega
        simp [hlt, this]
  unfold setFlag
  split
  · rename_i h; exact hb h
  · dsimp only
    split <;> simp [captureFault]

/-- A set flag whose arm is down changes the flag set alone (R132). -/
theorem setFlag_disarmed (f : Flag) (s : State) (h : s.cst.armed = false) :
    setFlag f s = { s with cst := { s.cst with flags := s.cst.flags ||| f.bit } } := by
  have := setFlag_flags f s
  unfold setFlag at *
  split
  · rename_i hs
    simp only [hs, if_true] at this
    rw [← this]
  · simp [h]

/-! ### The permit -/

/-- The permit and its reasons after a forming (R174). -/
@[simp] theorem formPermit_tqs (s : State) :
    (formPermit s).tqs = { s.tqs with permit := s.permitOf, reasons := s.reasonsOf } := by
  unfold formPermit
  simp

/-- A changed permit queues a PERMIT report (R175). -/
theorem formPermit_clp (s : State) :
    (formPermit s).clp = { s.clp with waiting :=
      if s.permitOf = s.tqs.permit then s.clp.waiting else s.clp.waiting ||| (ReportKind.permit.bit &&& s.clp.enabled) } := by
  by_cases h : s.permitOf = s.tqs.permit <;> simp [formPermit, queueReport_clp, h]

/-- What the permit is formed from (R174). -/
theorem permitOf_congr {s t : State} (he : t.eStop = s.eStop) (hs : t.clp.silent = s.clp.silent)
    (hl : t.chL = s.chL) (hr : t.chR = s.chR) (ht : t.target = s.target)
    (hd : t.plt.disposition = s.plt.disposition) (hc : t.tqs.conveyor = s.tqs.conveyor)
    (hp : t.load.parcels = s.load.parcels) (hm : t.mpr = s.mpr) :
    t.permitOf = s.permitOf ∧ t.reasonsOf = s.reasonsOf := by
  have hin : t.conveyorInput = s.conveyorInput := by
    simp only [State.conveyorInput, State.conveyorConsidered, State.conveyorContribution, State.hc, State.loadingLimit,
      State.beltContent, State.nearLoading, State.geo, State.tun, ht, hd, hc, hp, hm]
    rfl
  have hsrc : t.sourceInput = s.sourceInput := by simp only [State.sourceInput, hl, hr]
  have h1 : t.permitOf = s.permitOf := by simp only [State.permitOf, he, hs, hin, hsrc]
  refine ⟨h1, ?_⟩
  simp only [State.reasonsOf, h1, he, hs, hin, hsrc]

/-- After a forming the permit is what R174 gives. -/
theorem formPermit_formed (s : State) : (formPermit s).permitFormed := by
  have h := permitOf_congr (s := s) (t := formPermit s) (by simp) (by simp) (by simp) (by simp) (by simp) (by simp)
    (by simp) (by simp) (by simp)
  simp only [State.permitFormed, formPermit_tqs, h.1, h.2, and_self]

/-! ### The lift-cause set -/

@[simp] theorem setCauses_causes (c : LiftCauses) (s : State) : (setCauses c s).mlc.causes = c := by
  unfold setCauses
  split <;> simp_all

@[simp] theorem setCauses_mlc (c : LiftCauses) (s : State) :
    (setCauses c s).mlc.markers = s.mlc.markers ∧ (setCauses c s).mlc.nextId = s.mlc.nextId ∧
    (setCauses c s).mlc.lost = s.mlc.lost ∧ (setCauses c s).mlc.eventCount = s.mlc.eventCount ∧
    (setCauses c s).mlc.lastEvent = s.mlc.lastEvent := by
  unfold setCauses
  split <;> simp_all

@[simp] theorem setCauses_same (s : State) : setCauses s.mlc.causes s = s := by simp [setCauses]

/-- A change of the set queues a STATE report (R86). -/
theorem setCauses_clp (c : LiftCauses) (s : State) :
    (setCauses c s).clp = { s.clp with waiting :=
      if c = s.mlc.causes then s.clp.waiting else s.clp.waiting ||| (ReportKind.state.bit &&& s.clp.enabled) } := by
  by_cases h : c = s.mlc.causes <;> simp [setCauses, queueReport_clp, h]

/-- The slope-side return depth is captured when an empty set takes a cause and no channel is RETURNING (R91). -/
theorem setCauses_returnDepth (c : LiftCauses) (s : State) :
    (setCauses c s).mlc.returnDepth =
      if !s.mlc.causes.nonEmpty && c.nonEmpty && !s.chL.returning && !s.chR.returning then s.capturedReturn
      else s.mlc.returnDepth := by
  by_cases h : c = s.mlc.causes
  · subst h
    cases hn : s.mlc.causes.nonEmpty <;> simp [setCauses]
  · simp [setCauses, h]

/-! ### What a lookup at the drum reads -/

/-- The drum chainage reads TRC and the geometry (R4, R5). -/
theorem drum_congr {s t : State} (h1 : t.trc = s.trc) (h2 : t.mpr = s.mpr) : t.drum = s.drum := by
  simp only [State.drum, State.chainage, State.geo, h1, h2]

/-- A lookup reads the plan and the default (R20, R21). -/
theorem lookup_congr {s t : State} (h1 : t.plt.plan = s.plt.plan) (h2 : t.mpr = s.mpr) (c : Int) :
    t.lookup c = s.lookup c := by
  simp only [State.lookup, State.tun, h1, h2]

/-! ### The disposition at the drum -/

/-- What the re-forming of the disposition at the drum keeps beside its frame (R22). -/
theorem reformDisposition_keeps (s : State) :
    (reformDisposition s).plt = (keepDisposition s).plt ∧ (reformDisposition s).mlc.markers = s.mlc.markers ∧
    (reformDisposition s).tqs.conveyor = s.tqs.conveyor ∧ (reformDisposition s).tqs.trucks = s.tqs.trucks := by
  unfold reformDisposition
  dsimp only
  split <;> simp [reformPlan, keepDisposition]

/-- After it PLT keeps the lookup at the drum as it then stands (R22). -/
theorem reformDisposition_plt (s : State) :
    (reformDisposition s).plt = { s.plt with
      disposition := ((reformDisposition s).lookup (reformDisposition s).drum).disposition
      covered := ((reformDisposition s).lookup (reformDisposition s).drum).covered } := by
  have h := reformDisposition_keeps s
  have e1 : (reformDisposition s).drum = s.drum := drum_congr (by simp) (by simp)
  have e2 : (reformDisposition s).lookup s.drum = s.lookup s.drum :=
    lookup_congr (by rw [h.1]; rfl) (by simp) _
  rw [e1, e2, h.1]
  rfl

/-! ### Added reports and frames -/

/-- CLP unchanged adds no report. -/
theorem reportsAdded_of_eq (k : BitVec 9) {s t : State} (h : t.clp = s.clp) : reportsAdded k s t := by
  refine ⟨by rw [h], by rw [h, BitVec.or_self], ?_⟩
  rw [h]; ext i hi; simp

theorem reportsAdded.trans {k : BitVec 9} {s t u : State} (h : reportsAdded k s t) (g : reportsAdded k t u) :
    reportsAdded k s u := by
  obtain ⟨h1, h2, h3⟩ := h
  obtain ⟨g1, g2, g3⟩ := g
  have e : t.clp.enabled = s.clp.enabled := by rw [h1]
  rw [e] at g3
  refine ⟨by rw [g1, h1], ?_, ?_⟩
  · rw [← g2, ← BitVec.or_assoc, h2]
  · have x : s.clp.waiting ||| (k &&& s.clp.enabled) = t.clp.waiting ||| (k &&& s.clp.enabled) := by
      rw [← h3, ← BitVec.or_assoc, BitVec.or_comm t.clp.waiting, h2]
    rw [x, g3]

/-- A queued report is an added one. -/
theorem reportsAdded_queueReport (k : ReportKind) {m : BitVec 9} (hm : k.bit &&& m = k.bit) (s : State) :
    reportsAdded m s (queueReport k s) := by
  refine ⟨by rw [queueReport_clp], ?_, ?_⟩
  · rw [queueReport_waiting]; ext i hi; simp
  · rw [queueReport_waiting]; ext i hi
    have a := congrArg (·.getLsbD i) hm
    simp [← BitVec.getLsbD_eq_getElem] at *
    cases hs : s.clp.waiting.getLsbD i <;> cases ht : s.clp.enabled.getLsbD i <;> cases hu : k.bit.getLsbD i <;> simp_all

theorem reportsAdded_queueIf (b : Bool) (k : ReportKind) {m : BitVec 9} (hm : k.bit &&& m = k.bit) (s : State) :
    reportsAdded m s (queueIf b k s) := by
  cases b
  · exact reportsAdded_of_eq m rfl
  · exact reportsAdded_queueReport k hm s

/-- The lift-cause set and the return depth are all of MLC that a forming of causes moves (R85, R91). -/
theorem setCauses_mlc_eq (c : LiftCauses) (s : State) :
    (setCauses c s).mlc = { s.mlc with causes := c, returnDepth := (setCauses c s).mlc.returnDepth } := by
  by_cases h : c = s.mlc.causes
  · subst h; simp [setCauses]
  · simp [setCauses, h]

/-- A forming of causes queues STATE at most (R86). -/
theorem reportsAdded_setCauses (c : LiftCauses) {m : BitVec 9} (hm : ReportKind.state.bit &&& m = ReportKind.state.bit)
    (s : State) : reportsAdded m s (setCauses c s) := by
  unfold setCauses
  split
  · exact reportsAdded_of_eq _ rfl
  · exact reportsAdded_queueReport .state hm { s with mlc := _ }

/-- A forming of the permit queues PERMIT at most (R175). -/
theorem reportsAdded_formPermit {m : BitVec 9} (hm : ReportKind.permit.bit &&& m = ReportKind.permit.bit) (s : State) :
    reportsAdded m s (formPermit s) := by
  unfold formPermit
  exact reportsAdded_queueIf _ .permit hm { s with tqs := _ }

/-! ### The reports of a change -/

/-- A bit of a pending set stays in a set that keeps its members. -/
theorem waiting_mono {v w : BitVec 9} (h : v ||| w = w) (i : Nat) (hv : v.getLsbD i = true) : w.getLsbD i = true := by
  rw [← h, BitVec.getLsbD_or, hv, Bool.true_or]

/-- After a kind has been queued it is pending where it is enabled (R194). -/
theorem queueReport_pending (k : ReportKind) (s : State) (h : s.clp.enabled.getLsbD k.code = true) :
    (queueReport k s).clp.waiting.getLsbD k.code = true := by
  rw [queueReport_waiting]
  cases k <;> simp_all [ReportKind.bit, ReportKind.code]

/-- Reports of two changes in turn are reports of the whole change. -/
theorem reportsMade.trans {k : BitVec 9} {s t u : State} (h : reportsMade k s t) (g : reportsMade k t u) :
    reportsMade k s u := by
  obtain ⟨ha, h0, h1, h2, h3, h4⟩ := h
  obtain ⟨ga, g0, g1, g2, g3, g4⟩ := g
  have e : t.clp.enabled = s.clp.enabled := by rw [ha.1]
  have m := waiting_mono ga.2.1
  rw [e] at g0 g1 g2 g3 g4
  refine ⟨ha.trans ga, ?_, ?_, ?_, ?_, ?_⟩
  · intro c en
    by_cases x : (∃ x, (t.ch x).state ≠ (s.ch x).state ∨ (t.ch x).holdSource ≠ (s.ch x).holdSource ∨
      (t.ch x).holdLink ≠ (s.ch x).holdLink) ∨ t.mlc.causes ≠ s.mlc.causes ∨ t.tqs.conveyor ≠ s.tqs.conveyor
    · exact m 0 (h0 x en)
    · push Not at x
      refine g0 ?_ en
      simpa only [x.1, x.2.1, x.2.2] using c
  · intro c en
    by_cases x : ∃ x, (t.ch x).onGrade ≠ (s.ch x).onGrade
    · exact m 1 (h1 x en)
    · push Not at x
      exact g1 (by simpa only [x] using c) en
  · intro c en
    by_cases x : t.cst.captures = s.cst.captures
    · exact g2 (by rwa [x]) en
    · exact m 2 (h2 x en)
  · intro c en
    by_cases x : t.tqs.fullCount = s.tqs.fullCount
    · exact g3 (by rwa [x]) en
    · exact m 3 (h3 x en)
  · intro c en
    by_cases x : t.tqs.permit = s.tqs.permit
    · exact g4 (by rwa [x]) en
    · exact m 4 (h4 x en)

/-- Where nothing that a report follows has changed, an added report is all there is to say. -/
theorem reportsMade_of_same {k : BitVec 9} {s t : State} (h : reportsAdded k s t)
    (hc : ∀ x, (t.ch x).state = (s.ch x).state ∧ (t.ch x).holdSource = (s.ch x).holdSource ∧
      (t.ch x).holdLink = (s.ch x).holdLink ∧ (t.ch x).grade = (s.ch x).grade)
    (hm : t.mlc.causes = s.mlc.causes) (hv : t.tqs.conveyor = s.tqs.conveyor) (hs : t.cst.captures = s.cst.captures)
    (hf : t.tqs.fullCount = s.tqs.fullCount) (hp : t.tqs.permit = s.tqs.permit) : reportsMade k s t := by
  refine ⟨h, ?_, ?_, ?_, ?_, ?_⟩ <;> intro c <;> exfalso
  · rcases c with ⟨x, c | c | c⟩ | c | c
    · exact c (hc x).1
    · exact c (hc x).2.1
    · exact c (hc x).2.2.1
    · exact c hm
    · exact c hv
  · obtain ⟨x, c⟩ := c
    exact c (by simp only [Channel.onGrade, (hc x).2.2.2])
  · exact c hs
  · exact c hf
  · exact c hp

/-- A change of the lift-cause set queues STATE (R86). -/
theorem reportsMade_setCauses (c : LiftCauses) {m : BitVec 9} (hm : ReportKind.state.bit &&& m = ReportKind.state.bit)
    (s : State) : reportsMade m s (setCauses c s) := by
  by_cases h : c = s.mlc.causes
  · have e : setCauses c s = s := by simp [setCauses, h]
    rw [e]
    exact reportsMade_of_same (reportsAdded_of_eq _ rfl) (fun x => ⟨rfl, rfl, rfl, rfl⟩) rfl rfl rfl rfl rfl
  · have e : ∃ u : State, setCauses c s = queueReport .state u ∧ u = { s with mlc := u.mlc } :=
      ⟨_, by simp only [setCauses, h, if_false]; rfl, rfl⟩
    obtain ⟨u, e, hu⟩ := e
    refine ⟨reportsAdded_setCauses c hm s, ?_, ?_, ?_, ?_, ?_⟩
    · intro _ en
      rw [e]
      exact queueReport_pending .state u (by rw [hu]; exact en)
    · rintro ⟨x, hx⟩
      cases x <;> simp [State.ch] at hx
    all_goals intro hx; simp at hx

/-- A changed permit queues PERMIT (R175). -/
theorem reportsMade_formPermit {m : BitVec 9} (hm : ReportKind.permit.bit &&& m = ReportKind.permit.bit) (s : State) :
    reportsMade m s (formPermit s) := by
  refine ⟨reportsAdded_formPermit hm s, ?_, ?_, ?_, ?_, ?_⟩
  · rintro (⟨x, hx⟩ | hx | hx) <;> first | cases x | skip
    all_goals simp [State.ch, formPermit] at hx
  · rintro ⟨x, hx⟩
    cases x <;> simp [State.ch] at hx
  · intro hx; simp at hx
  · intro hx; simp [formPermit] at hx
  · intro hx en
    unfold formPermit at hx ⊢
    by_cases hp : s.permitOf = s.tqs.permit
    · simp [hp] at hx
    · simp only [ne_eq, hp, not_false_eq_true, decide_true, queueIf_true]
      exact queueReport_pending .permit { s with tqs := { s.tqs with permit := s.permitOf, reasons := s.reasonsOf } } en

/-- What a change of the lift-cause set does to the return depth (R91). -/
theorem setCauses_formed (c : LiftCauses) (s : State) : returnDepthFormed s (setCauses c s) := by
  unfold returnDepthFormed
  by_cases h : c = s.mlc.causes
  · have e : setCauses c s = s := by simp [setCauses, h]
    rw [e]
    exact (if_neg fun g => g.2.1 g.1).symm
  · simp only [setCauses, h, if_false]
    rcases c with ⟨_ | _, _ | _, _ | _⟩ <;> rcases hs : s.mlc.causes with ⟨_ | _, _ | _, _ | _⟩ <;>
      simp_all [LiftCauses.nonEmpty, State.capturedReturn]

/-- What the re-forming of the disposition at the drum does (R22). -/
theorem reformDisposition_reformed (u : State) : dispositionReformed u (reformDisposition u) := by
  have hk := reformDisposition_keeps u
  refine ⟨State.eq_of_fields (by simp) (by simp) (by simp) rfl (by simp) (by simp) (by simp) (by simp) rfl (by simp)
    (by simp) (by simp) (by simp) rfl (by simp) rfl (by simp) (by simp), by rw [hk.1]; rfl, ?_, ?_⟩
  · intro h
    rw [hk.1] at h
    simp only [reformDisposition, h, if_true]
    exact ⟨rfl, rfl, rfl⟩
  · intro h
    rw [hk.1] at h
    have e : reformDisposition u = formPermit (reformPlan (keepDisposition u)) := by
      simp only [reformDisposition, h, if_false]
    have hp := formPermit_formed (reformPlan (keepDisposition u))
    rw [← e] at hp
    refine ⟨?_, ?_, ?_, ?_, ?_⟩
    · rw [e, show (formPermit (reformPlan (keepDisposition u))).mlc = (reformPlan (keepDisposition u)).mlc by simp]
      exact (setCauses_mlc_eq _ _).trans (by simp [reformPlan])
    · rw [hk.1, e]; simp [reformPlan, State.planCause, keepDisposition]; rfl
    · rw [← hp.1, ← hp.2, e]; simp
    · unfold returnDepthFormed
      rw [e, show (formPermit (reformPlan (keepDisposition u))).mlc = (reformPlan (keepDisposition u)).mlc by simp]
      exact setCauses_formed _ (keepDisposition u)
    · rw [e]
      exact (reportsMade_of_same (reportsAdded_of_eq _ rfl) (fun x => by cases x <;> exact ⟨rfl, rfl, rfl, rfl⟩) rfl rfl rfl
        rfl rfl).trans ((reportsMade_setCauses _ (by decide) (keepDisposition u)).trans
          (reportsMade_formPermit (by decide) (reformPlan (keepDisposition u))))

/-! ### Channels -/

@[simp] theorem changeChannel_ch (x : Side) (c : Channel) (s : State) : (changeChannel x c s).ch x = c := by
  cases x <;> simp [changeChannel]

@[simp] theorem changeChannel_other (x : Side) (c : Channel) (s : State) :
    (changeChannel x c s).ch x.other = s.ch x.other := by
  cases x <;> simp [changeChannel, Side.other]

@[simp] theorem changeChannel_L (c : Channel) (s : State) :
    (changeChannel .L c s).chL = c ∧ (changeChannel .L c s).chR = s.chR := by simp [changeChannel]

@[simp] theorem changeChannel_R (c : Channel) (s : State) :
    (changeChannel .R c s).chR = c ∧ (changeChannel .R c s).chL = s.chL := by simp [changeChannel]

/-- A channel's new value queues STATE and GRADE where they changed (R52, R72). -/
theorem reportsMade_changeChannel (side : Side) (c : Channel) {m : BitVec 9}
    (hs : ReportKind.state.bit &&& m = ReportKind.state.bit) (hg : ReportKind.grade.bit &&& m = ReportKind.grade.bit)
    (s : State) : reportsMade m s (changeChannel side c s) := by
  refine ⟨(reportsAdded_of_eq m (by cases side <;> rfl)).trans ((reportsAdded_queueIf _ .state hs (s.setCh side c)).trans
    (reportsAdded_queueIf _ .grade hg _)), ?_, ?_, ?_, ?_, ?_⟩
  · intro h en
    have d : c.stateDiffers (s.ch side) = true := by
      by_contra d
      simp only [Channel.stateDiffers, Bool.or_eq_true, decide_eq_true_eq, not_or, not_not] at d
      obtain ⟨⟨d1, d2⟩, d3⟩ := d
      rcases h with ⟨x, hx⟩ | hx | hx
      · cases side <;> cases x <;> simp_all [State.ch, changeChannel]
      · cases side <;> simp [changeChannel, State.setCh] at hx
      · cases side <;> simp [changeChannel, State.setCh] at hx
    unfold changeChannel
    refine waiting_mono (reportsAdded_queueIf _ .grade (m := ReportKind.grade.bit) (by decide) _).2.1 0 ?_
    rw [d, queueIf_true]
    exact queueReport_pending .state _ (by cases side <;> exact en)
  · rintro ⟨x, hx⟩ en
    have d : c.onGrade ≠ (s.ch side).onGrade := by
      intro d
      cases side <;> cases x <;> simp_all [State.ch, changeChannel]
    unfold changeChannel
    dsimp only
    rw [decide_eq_true d, queueIf_true]
    refine queueReport_pending .grade _ ?_
    rw [queueIf_clp]
    cases side <;> exact en
  · intro h; exact absurd (by cases side <;> simp [changeChannel, State.setCh]) h
  · intro h; exact absurd (by cases side <;> simp [changeChannel, State.setCh]) h
  · intro h; exact absurd (by cases side <;> simp [changeChannel, State.setCh]) h
/-- A conveyor that enters another state queues STATE (R166). -/
theorem reportsMade_enterConveyor (v : Conveyor) (cmd : Int) {m : BitVec 9}
    (hm : ReportKind.state.bit &&& m = ReportKind.state.bit) (s : State) : reportsMade m s (enterConveyor v cmd s) := by
  refine ⟨reportsAdded_queueIf _ .state hm { s with tqs := { s.tqs with conveyor := v, cmd := cmd } }, ?_, ?_, ?_, ?_, ?_⟩
  · intro h en
    by_cases hv : v = s.tqs.conveyor
    · subst hv
      rcases h with ⟨x, hx⟩ | hx | hx <;> first | cases x | skip
      all_goals simp [State.ch, enterConveyor] at hx
    · have e : enterConveyor v cmd s = queueReport .state { s with tqs := { s.tqs with conveyor := v, cmd := cmd } } := by
        simp [enterConveyor, hv]
      rw [e]
      exact queueReport_pending .state { s with tqs := { s.tqs with conveyor := v, cmd := cmd } } en
  · rintro ⟨x, hx⟩
    cases x <;> simp [State.ch, enterConveyor] at hx
  all_goals intro hx; simp [enterConveyor] at hx

theorem enterOff_eq (x : Side) (s : State) : enterOff x s =
    if (s.ch x).state = .off then s
    else if (s.ch x).state = .auto ∧ (changeChannel x (s.ch x).toOff s).anyAuto = false then
      dropManual (changeChannel x (s.ch x).toOff s)
    else changeChannel x (s.ch x).toOff s := rfl

/-- A channel that enters OFF, and the other channel (R46). -/
@[simp] theorem enterOff_L (s : State) :
    (enterOff .L s).chL = (if s.chL.state = .off then s.chL else s.chL.toOff) ∧ (enterOff .L s).chR = s.chR := by
  rw [enterOff_eq]
  simp only [ch_L]
  split
  · simp
  · split <;> simp [dropManual]

@[simp] theorem enterOff_R (s : State) :
    (enterOff .R s).chR = (if s.chR.state = .off then s.chR else s.chR.toOff) ∧ (enterOff .R s).chL = s.chL := by
  rw [enterOff_eq]
  simp only [ch_R]
  split
  · simp
  · split <;> simp [dropManual]

/-! ### The conveyor -/

@[simp] theorem enterConveyor_tqs (v : Conveyor) (c : Int) (s : State) :
    (enterConveyor v c s).tqs = { s.tqs with conveyor := v, cmd := c } := by simp [enterConveyor]

@[simp] theorem stopConveyor_tqs (s : State) :
    (stopConveyor s).tqs = { s.tqs with conveyor := .stopped, cmd := 0, stall := 0 } := by simp [stopConveyor]

/-- The topping test leaves the conveyor or moves it to TOPPING (R169). -/
theorem toppingTest_cases (s : State) :
    toppingTest s = s ∨ (s.tqs.conveyor = .running ∧ s.toppingMet = true ∧
      toppingTest s = enterConveyor .topping s.toppingCommand s) := by
  unfold toppingTest
  split
  · rename_i h; exact .inr ⟨h.1, h.2, rfl⟩
  · exact .inl rfl

end Sys2Proof.Machine
end

