-- ==== Sys2Proof/Laws/Events.lean ====
section
/-! SUPPORT. What the events and the owners' acts leave alone, one lemma per operation: the fields of State it does not touch, and
of CLP all but what is named in the operation's rule. -/

namespace Sys2Proof.Machine

@[simp] theorem setHigh_frame (e : Encoder) (v : Option Int) (s : State) :
    (setHigh e v s).now = s.now ∧ (setHigh e v s).eStop = s.eStop ∧ (setHigh e v s).plt = s.plt ∧
    (setHigh e v s).chL = s.chL ∧ (setHigh e v s).chR = s.chR ∧ (setHigh e v s).target = s.target ∧
    (setHigh e v s).slopeRaw = s.slopeRaw ∧ (setHigh e v s).mlc = s.mlc ∧ (setHigh e v s).spr = s.spr ∧
    (setHigh e v s).chd = s.chd ∧ (setHigh e v s).cst = s.cst ∧ (setHigh e v s).load = s.load ∧
    (setHigh e v s).tqs = s.tqs ∧ (setHigh e v s).mpr = s.mpr ∧ (setHigh e v s).clp = s.clp ∧
    (setHigh e v s).freeUsed = s.freeUsed ∧ (setHigh e v s).pending = s.pending := by
  cases e <;> simp [setHigh]

@[simp] theorem countRejected_frame (e : Encoder) (s : State) :
    (countRejected e s).now = s.now ∧ (countRejected e s).eStop = s.eStop ∧ (countRejected e s).plt = s.plt ∧
    (countRejected e s).chL = s.chL ∧ (countRejected e s).chR = s.chR ∧ (countRejected e s).target = s.target ∧
    (countRejected e s).slopeRaw = s.slopeRaw ∧ (countRejected e s).mlc = s.mlc ∧ (countRejected e s).spr = s.spr ∧
    (countRejected e s).chd = s.chd ∧ (countRejected e s).cst = s.cst ∧ (countRejected e s).load = s.load ∧
    (countRejected e s).tqs = s.tqs ∧ (countRejected e s).mpr = s.mpr ∧ (countRejected e s).clp = s.clp ∧
    (countRejected e s).freeUsed = s.freeUsed ∧ (countRejected e s).pending = s.pending := by
  cases e <;> simp [countRejected]

@[simp] theorem risingEdge_frame (e : Encoder) (s : State) :
    (risingEdge e s).now = s.now ∧ (risingEdge e s).eStop = s.eStop ∧ (risingEdge e s).plt = s.plt ∧
    (risingEdge e s).chL = s.chL ∧ (risingEdge e s).chR = s.chR ∧ (risingEdge e s).target = s.target ∧
    (risingEdge e s).slopeRaw = s.slopeRaw ∧ (risingEdge e s).mlc = s.mlc ∧ (risingEdge e s).spr = s.spr ∧
    (risingEdge e s).chd = s.chd ∧ (risingEdge e s).cst = s.cst ∧ (risingEdge e s).load = s.load ∧
    (risingEdge e s).tqs = s.tqs ∧ (risingEdge e s).mpr = s.mpr ∧ (risingEdge e s).clp = s.clp ∧
    (risingEdge e s).freeUsed = s.freeUsed ∧ (risingEdge e s).pending = s.pending := by
  simp [risingEdge]

@[simp] theorem endHighPhase_frame (e : Encoder) (n : Nat) (s : State) :
    (endHighPhase e n s).now = s.now ∧ (endHighPhase e n s).eStop = s.eStop ∧ (endHighPhase e n s).plt = s.plt ∧
    (endHighPhase e n s).chL = s.chL ∧ (endHighPhase e n s).chR = s.chR ∧ (endHighPhase e n s).target = s.target ∧
    (endHighPhase e n s).slopeRaw = s.slopeRaw ∧ (endHighPhase e n s).mlc = s.mlc ∧ (endHighPhase e n s).spr = s.spr ∧
    (endHighPhase e n s).chd = s.chd ∧ (endHighPhase e n s).cst = s.cst ∧ (endHighPhase e n s).load = s.load ∧
    (endHighPhase e n s).tqs = s.tqs ∧ (endHighPhase e n s).mpr = s.mpr ∧ (endHighPhase e n s).clp = s.clp ∧
    (endHighPhase e n s).freeUsed = s.freeUsed ∧ (endHighPhase e n s).pending = s.pending := by
  simp only [endHighPhase]
  (repeat' split) <;> simp

@[simp] theorem raiseHw_frame (s : State) :
    (raiseHw s).now = s.now ∧ (raiseHw s).eStop = s.eStop ∧ (raiseHw s).plt = s.plt ∧ (raiseHw s).chL = s.chL ∧
    (raiseHw s).chR = s.chR ∧ (raiseHw s).target = s.target ∧ (raiseHw s).slopeRaw = s.slopeRaw ∧ (raiseHw s).mlc = s.mlc ∧
    (raiseHw s).spr = s.spr ∧ (raiseHw s).chd = s.chd ∧ (raiseHw s).cst = s.cst ∧ (raiseHw s).load = s.load ∧
    (raiseHw s).tqs = s.tqs ∧ (raiseHw s).mpr = s.mpr ∧ (raiseHw s).clp = s.clp ∧ (raiseHw s).freeUsed = s.freeUsed ∧
    (raiseHw s).pending = s.pending := by
  simp only [raiseHw]
  (repeat' split) <;> simp

@[simp] theorem countTravel_frame (d : Bool) (s : State) :
    (countTravel d s).now = s.now ∧ (countTravel d s).eStop = s.eStop ∧ (countTravel d s).plt = s.plt ∧
    (countTravel d s).chL = s.chL ∧ (countTravel d s).chR = s.chR ∧ (countTravel d s).target = s.target ∧
    (countTravel d s).slopeRaw = s.slopeRaw ∧ (countTravel d s).mlc = s.mlc ∧ (countTravel d s).spr = s.spr ∧
    (countTravel d s).chd = s.chd ∧ (countTravel d s).cst = s.cst ∧ (countTravel d s).load = s.load ∧
    (countTravel d s).tqs = s.tqs ∧ (countTravel d s).mpr = s.mpr ∧ (countTravel d s).clp = s.clp ∧
    (countTravel d s).freeUsed = s.freeUsed ∧ (countTravel d s).pending = s.pending := by
  simp [countTravel]

@[simp] theorem travelPulse_frame (d : Bool) (s : State) :
    (travelPulse d s).now = s.now ∧ (travelPulse d s).eStop = s.eStop ∧ (travelPulse d s).chL = s.chL ∧
    (travelPulse d s).chR = s.chR ∧ (travelPulse d s).target = s.target ∧ (travelPulse d s).slopeRaw = s.slopeRaw ∧
    (travelPulse d s).spr = s.spr ∧ (travelPulse d s).chd = s.chd ∧ (travelPulse d s).load = s.load ∧
    (travelPulse d s).mpr = s.mpr ∧ (travelPulse d s).freeUsed = s.freeUsed ∧ (travelPulse d s).pending = s.pending ∧
    (travelPulse d s).clp.rx = s.clp.rx ∧ (travelPulse d s).clp.buffer = s.clp.buffer ∧
    (travelPulse d s).clp.slot = s.clp.slot ∧ (travelPulse d s).clp.tx = s.clp.tx ∧
    (travelPulse d s).clp.enabled = s.clp.enabled ∧ (travelPulse d s).clp.silent = s.clp.silent ∧
    (travelPulse d s).clp.silence = s.clp.silence ∧ (travelPulse d s).clp.telemetry = s.clp.telemetry ∧
    (travelPulse d s).clp.counters = s.clp.counters := by
  simp only [travelPulse]
  (repeat' split) <;> simp

@[simp] theorem beltPulse_frame (s : State) :
    (beltPulse s).now = s.now ∧ (beltPulse s).eStop = s.eStop ∧ (beltPulse s).plt = s.plt ∧ (beltPulse s).chL = s.chL ∧
    (beltPulse s).chR = s.chR ∧ (beltPulse s).target = s.target ∧ (beltPulse s).slopeRaw = s.slopeRaw ∧
    (beltPulse s).mlc = s.mlc ∧ (beltPulse s).spr = s.spr ∧ (beltPulse s).chd = s.chd ∧ (beltPulse s).cst = s.cst ∧
    (beltPulse s).load = s.load ∧ (beltPulse s).tqs = s.tqs ∧ (beltPulse s).mpr = s.mpr ∧ (beltPulse s).clp = s.clp ∧
    (beltPulse s).freeUsed = s.freeUsed ∧ (beltPulse s).pending = s.pending := by
  simp only [beltPulse]
  (repeat' split) <;> simp

@[simp] theorem measureSpeeds_frame (s : State) :
    (measureSpeeds s).now = s.now ∧ (measureSpeeds s).eStop = s.eStop ∧ (measureSpeeds s).plt = s.plt ∧
    (measureSpeeds s).chL = s.chL ∧ (measureSpeeds s).chR = s.chR ∧ (measureSpeeds s).target = s.target ∧
    (measureSpeeds s).slopeRaw = s.slopeRaw ∧ (measureSpeeds s).mlc = s.mlc ∧ (measureSpeeds s).spr = s.spr ∧
    (measureSpeeds s).chd = s.chd ∧ (measureSpeeds s).cst = s.cst ∧ (measureSpeeds s).load = s.load ∧
    (measureSpeeds s).tqs = s.tqs ∧ (measureSpeeds s).mpr = s.mpr ∧ (measureSpeeds s).clp = s.clp ∧
    (measureSpeeds s).freeUsed = s.freeUsed ∧ (measureSpeeds s).pending = s.pending := by
  simp [measureSpeeds]

@[simp] theorem keepStall_frame (s : State) :
    (keepStall s).now = s.now ∧ (keepStall s).eStop = s.eStop ∧ (keepStall s).trc = s.trc ∧ (keepStall s).plt = s.plt ∧
    (keepStall s).chL = s.chL ∧ (keepStall s).chR = s.chR ∧ (keepStall s).target = s.target ∧
    (keepStall s).slopeRaw = s.slopeRaw ∧ (keepStall s).mlc = s.mlc ∧ (keepStall s).spr = s.spr ∧
    (keepStall s).chd = s.chd ∧ (keepStall s).load = s.load ∧ (keepStall s).mpr = s.mpr ∧
    (keepStall s).freeUsed = s.freeUsed ∧ (keepStall s).pending = s.pending ∧ (keepStall s).clp.rx = s.clp.rx ∧
    (keepStall s).clp.buffer = s.clp.buffer ∧ (keepStall s).clp.slot = s.clp.slot ∧ (keepStall s).clp.tx = s.clp.tx ∧
    (keepStall s).clp.enabled = s.clp.enabled ∧ (keepStall s).clp.silent = s.clp.silent ∧
    (keepStall s).clp.silence = s.clp.silence ∧ (keepStall s).clp.telemetry = s.clp.telemetry ∧
    (keepStall s).clp.counters = s.clp.counters := by
  simp only [keepStall]
  (repeat' split) <;> simp

@[simp] theorem formCommand_frame (s : State) :
    (formCommand s).now = s.now ∧ (formCommand s).eStop = s.eStop ∧ (formCommand s).trc = s.trc ∧
    (formCommand s).plt = s.plt ∧ (formCommand s).chL = s.chL ∧ (formCommand s).chR = s.chR ∧
    (formCommand s).target = s.target ∧ (formCommand s).slopeRaw = s.slopeRaw ∧ (formCommand s).mlc = s.mlc ∧
    (formCommand s).spr = s.spr ∧ (formCommand s).chd = s.chd ∧ (formCommand s).cst = s.cst ∧
    (formCommand s).load = s.load ∧ (formCommand s).mpr = s.mpr ∧ (formCommand s).clp = s.clp ∧
    (formCommand s).freeUsed = s.freeUsed ∧ (formCommand s).pending = s.pending := by
  simp only [formCommand]
  (repeat' split) <;> simp

@[simp] theorem speedInterval_frame (s : State) :
    (speedInterval s).now = s.now ∧ (speedInterval s).eStop = s.eStop ∧ (speedInterval s).plt = s.plt ∧
    (speedInterval s).chL = s.chL ∧ (speedInterval s).chR = s.chR ∧ (speedInterval s).target = s.target ∧
    (speedInterval s).slopeRaw = s.slopeRaw ∧ (speedInterval s).mlc = s.mlc ∧ (speedInterval s).spr = s.spr ∧
    (speedInterval s).chd = s.chd ∧ (speedInterval s).load = s.load ∧ (speedInterval s).mpr = s.mpr ∧
    (speedInterval s).freeUsed = s.freeUsed ∧ (speedInterval s).pending = s.pending ∧ (speedInterval s).clp.rx = s.clp.rx ∧
    (speedInterval s).clp.buffer = s.clp.buffer ∧ (speedInterval s).clp.slot = s.clp.slot ∧
    (speedInterval s).clp.tx = s.clp.tx ∧ (speedInterval s).clp.enabled = s.clp.enabled ∧
    (speedInterval s).clp.silent = s.clp.silent ∧ (speedInterval s).clp.silence = s.clp.silence ∧
    (speedInterval s).clp.telemetry = s.clp.telemetry ∧ (speedInterval s).clp.counters = s.clp.counters := by
  simp [speedInterval]

@[simp] theorem setDatum_frame (c : Int) (s : State) :
    (setDatum c s).now = s.now ∧ (setDatum c s).eStop = s.eStop ∧ (setDatum c s).chL = s.chL ∧ (setDatum c s).chR = s.chR ∧
    (setDatum c s).target = s.target ∧ (setDatum c s).slopeRaw = s.slopeRaw ∧ (setDatum c s).spr = s.spr ∧
    (setDatum c s).chd = s.chd ∧ (setDatum c s).cst = s.cst ∧ (setDatum c s).load = s.load ∧ (setDatum c s).mpr = s.mpr ∧
    (setDatum c s).freeUsed = s.freeUsed ∧ (setDatum c s).pending = s.pending ∧ (setDatum c s).clp.rx = s.clp.rx ∧
    (setDatum c s).clp.buffer = s.clp.buffer ∧ (setDatum c s).clp.slot = s.clp.slot ∧ (setDatum c s).clp.tx = s.clp.tx ∧
    (setDatum c s).clp.enabled = s.clp.enabled ∧ (setDatum c s).clp.silent = s.clp.silent ∧
    (setDatum c s).clp.silence = s.clp.silence ∧ (setDatum c s).clp.telemetry = s.clp.telemetry ∧
    (setDatum c s).clp.counters = s.clp.counters := by
  simp [setDatum]

@[simp] theorem suspendSplice_frame (s : State) :
    (suspendSplice s).now = s.now ∧ (suspendSplice s).eStop = s.eStop ∧ (suspendSplice s).trc = s.trc ∧
    (suspendSplice s).chL = s.chL ∧ (suspendSplice s).chR = s.chR ∧ (suspendSplice s).target = s.target ∧
    (suspendSplice s).slopeRaw = s.slopeRaw ∧ (suspendSplice s).mlc = s.mlc ∧ (suspendSplice s).spr = s.spr ∧
    (suspendSplice s).chd = s.chd ∧ (suspendSplice s).cst = s.cst ∧ (suspendSplice s).load = s.load ∧
    (suspendSplice s).tqs = s.tqs ∧ (suspendSplice s).mpr = s.mpr ∧ (suspendSplice s).freeUsed = s.freeUsed ∧
    (suspendSplice s).pending = s.pending ∧ (suspendSplice s).clp.rx = s.clp.rx ∧
    (suspendSplice s).clp.buffer = s.clp.buffer ∧ (suspendSplice s).clp.slot = s.clp.slot ∧
    (suspendSplice s).clp.tx = s.clp.tx ∧ (suspendSplice s).clp.enabled = s.clp.enabled ∧
    (suspendSplice s).clp.silent = s.clp.silent ∧ (suspendSplice s).clp.silence = s.clp.silence ∧
    (suspendSplice s).clp.telemetry = s.clp.telemetry ∧ (suspendSplice s).clp.counters = s.clp.counters := by
  simp [suspendSplice]

@[simp] theorem takeSpliceStep_frame (g : Segment) (rest : List Segment) (s : State) :
    (takeSpliceStep g rest s).now = s.now ∧ (takeSpliceStep g rest s).eStop = s.eStop ∧
    (takeSpliceStep g rest s).trc = s.trc ∧ (takeSpliceStep g rest s).chL = s.chL ∧ (takeSpliceStep g rest s).chR = s.chR ∧
    (takeSpliceStep g rest s).target = s.target ∧ (takeSpliceStep g rest s).slopeRaw = s.slopeRaw ∧
    (takeSpliceStep g rest s).spr = s.spr ∧ (takeSpliceStep g rest s).chd = s.chd ∧ (takeSpliceStep g rest s).cst = s.cst ∧
    (takeSpliceStep g rest s).load = s.load ∧ (takeSpliceStep g rest s).mpr = s.mpr ∧
    (takeSpliceStep g rest s).freeUsed = s.freeUsed ∧ (takeSpliceStep g rest s).pending = s.pending ∧
    (takeSpliceStep g rest s).clp.rx = s.clp.rx ∧ (takeSpliceStep g rest s).clp.buffer = s.clp.buffer ∧
    (takeSpliceStep g rest s).clp.slot = s.clp.slot ∧ (takeSpliceStep g rest s).clp.tx = s.clp.tx ∧
    (takeSpliceStep g rest s).clp.enabled = s.clp.enabled ∧ (takeSpliceStep g rest s).clp.silent = s.clp.silent ∧
    (takeSpliceStep g rest s).clp.silence = s.clp.silence ∧ (takeSpliceStep g rest s).clp.telemetry = s.clp.telemetry ∧
    (takeSpliceStep g rest s).clp.counters = s.clp.counters := by
  simp only [takeSpliceStep]
  (repeat' split) <;> simp

@[simp] theorem spliceStep_frame (s : State) :
    (spliceStep s).now = s.now ∧ (spliceStep s).eStop = s.eStop ∧ (spliceStep s).trc = s.trc ∧ (spliceStep s).chL = s.chL ∧
    (spliceStep s).chR = s.chR ∧ (spliceStep s).target = s.target ∧ (spliceStep s).slopeRaw = s.slopeRaw ∧
    (spliceStep s).spr = s.spr ∧ (spliceStep s).chd = s.chd ∧ (spliceStep s).cst = s.cst ∧ (spliceStep s).load = s.load ∧
    (spliceStep s).mpr = s.mpr ∧ (spliceStep s).freeUsed = s.freeUsed ∧ (spliceStep s).pending = s.pending ∧
    (spliceStep s).clp.rx = s.clp.rx ∧ (spliceStep s).clp.buffer = s.clp.buffer ∧ (spliceStep s).clp.slot = s.clp.slot ∧
    (spliceStep s).clp.tx = s.clp.tx ∧ (spliceStep s).clp.enabled = s.clp.enabled ∧
    (spliceStep s).clp.silent = s.clp.silent ∧ (spliceStep s).clp.silence = s.clp.silence ∧
    (spliceStep s).clp.telemetry = s.clp.telemetry ∧ (spliceStep s).clp.counters = s.clp.counters := by
  simp only [spliceStep]
  (repeat' split) <;> simp

@[simp] theorem spliceFinalStep_frame (s : State) :
    (spliceFinalStep s).now = s.now ∧ (spliceFinalStep s).eStop = s.eStop ∧ (spliceFinalStep s).trc = s.trc ∧
    (spliceFinalStep s).chL = s.chL ∧ (spliceFinalStep s).chR = s.chR ∧ (spliceFinalStep s).target = s.target ∧
    (spliceFinalStep s).slopeRaw = s.slopeRaw ∧ (spliceFinalStep s).spr = s.spr ∧ (spliceFinalStep s).chd = s.chd ∧
    (spliceFinalStep s).cst = s.cst ∧ (spliceFinalStep s).load = s.load ∧ (spliceFinalStep s).mpr = s.mpr ∧
    (spliceFinalStep s).freeUsed = s.freeUsed ∧ (spliceFinalStep s).pending = s.pending ∧
    (spliceFinalStep s).clp.rx = s.clp.rx ∧ (spliceFinalStep s).clp.buffer = s.clp.buffer ∧
    (spliceFinalStep s).clp.slot = s.clp.slot ∧ (spliceFinalStep s).clp.tx = s.clp.tx ∧
    (spliceFinalStep s).clp.enabled = s.clp.enabled ∧ (spliceFinalStep s).clp.silent = s.clp.silent ∧
    (spliceFinalStep s).clp.silence = s.clp.silence ∧ (spliceFinalStep s).clp.telemetry = s.clp.telemetry ∧
    (spliceFinalStep s).clp.counters = s.clp.counters := by
  simp only [spliceFinalStep]
  (repeat' split) <;> simp

@[simp] theorem sampleSensors_frame (x : Side) (p l c : Nat) (s : State) :
    (sampleSensors x p l c s).now = s.now ∧ (sampleSensors x p l c s).eStop = s.eStop ∧
    (sampleSensors x p l c s).trc = s.trc ∧ (sampleSensors x p l c s).plt = s.plt ∧
    (sampleSensors x p l c s).target = s.target ∧ (sampleSensors x p l c s).mlc = s.mlc ∧
    (sampleSensors x p l c s).spr = s.spr ∧ (sampleSensors x p l c s).chd = s.chd ∧ (sampleSensors x p l c s).cst = s.cst ∧
    (sampleSensors x p l c s).load = s.load ∧ (sampleSensors x p l c s).tqs = s.tqs ∧
    (sampleSensors x p l c s).mpr = s.mpr ∧ (sampleSensors x p l c s).clp = s.clp ∧
    (sampleSensors x p l c s).freeUsed = s.freeUsed ∧ (sampleSensors x p l c s).pending = s.pending := by
  simp [sampleSensors]

@[simp] theorem fuseSources_frame (x : Side) (s : State) :
    (fuseSources x s).now = s.now ∧ (fuseSources x s).eStop = s.eStop ∧ (fuseSources x s).trc = s.trc ∧
    (fuseSources x s).plt = s.plt ∧ (fuseSources x s).target = s.target ∧ (fuseSources x s).slopeRaw = s.slopeRaw ∧
    (fuseSources x s).mlc = s.mlc ∧ (fuseSources x s).spr = s.spr ∧ (fuseSources x s).chd = s.chd ∧
    (fuseSources x s).cst = s.cst ∧ (fuseSources x s).load = s.load ∧ (fuseSources x s).tqs = s.tqs ∧
    (fuseSources x s).mpr = s.mpr ∧ (fuseSources x s).clp = s.clp ∧ (fuseSources x s).freeUsed = s.freeUsed ∧
    (fuseSources x s).pending = s.pending := by
  simp [fuseSources]

@[simp] theorem applySource_frame (x : Side) (v : Bool) (s : State) :
    (applySource x v s).now = s.now ∧ (applySource x v s).eStop = s.eStop ∧ (applySource x v s).trc = s.trc ∧
    (applySource x v s).plt = s.plt ∧ (applySource x v s).target = s.target ∧ (applySource x v s).slopeRaw = s.slopeRaw ∧
    (applySource x v s).mlc = s.mlc ∧ (applySource x v s).spr = s.spr ∧ (applySource x v s).chd = s.chd ∧
    (applySource x v s).load = s.load ∧ (applySource x v s).mpr = s.mpr ∧ (applySource x v s).freeUsed = s.freeUsed ∧
    (applySource x v s).pending = s.pending ∧ (applySource x v s).clp.rx = s.clp.rx ∧
    (applySource x v s).clp.buffer = s.clp.buffer ∧ (applySource x v s).clp.slot = s.clp.slot ∧
    (applySource x v s).clp.tx = s.clp.tx ∧ (applySource x v s).clp.enabled = s.clp.enabled ∧
    (applySource x v s).clp.silent = s.clp.silent ∧ (applySource x v s).clp.silence = s.clp.silence ∧
    (applySource x v s).clp.telemetry = s.clp.telemetry ∧ (applySource x v s).clp.counters = s.clp.counters := by
  simp only [applySource]
  (repeat' split) <;> simp

@[simp] theorem goalAndRamp_frame (x : Side) (d : Int) (l r : Bool) (s : State) :
    (goalAndRamp x d l r s).now = s.now ∧ (goalAndRamp x d l r s).eStop = s.eStop ∧ (goalAndRamp x d l r s).trc = s.trc ∧
    (goalAndRamp x d l r s).plt = s.plt ∧ (goalAndRamp x d l r s).target = s.target ∧
    (goalAndRamp x d l r s).slopeRaw = s.slopeRaw ∧ (goalAndRamp x d l r s).mlc = s.mlc ∧
    (goalAndRamp x d l r s).spr = s.spr ∧ (goalAndRamp x d l r s).chd = s.chd ∧ (goalAndRamp x d l r s).load = s.load ∧
    (goalAndRamp x d l r s).tqs = s.tqs ∧ (goalAndRamp x d l r s).mpr = s.mpr ∧
    (goalAndRamp x d l r s).freeUsed = s.freeUsed ∧ (goalAndRamp x d l r s).pending = s.pending ∧
    (goalAndRamp x d l r s).clp.rx = s.clp.rx ∧ (goalAndRamp x d l r s).clp.buffer = s.clp.buffer ∧
    (goalAndRamp x d l r s).clp.slot = s.clp.slot ∧ (goalAndRamp x d l r s).clp.tx = s.clp.tx ∧
    (goalAndRamp x d l r s).clp.enabled = s.clp.enabled ∧ (goalAndRamp x d l r s).clp.silent = s.clp.silent ∧
    (goalAndRamp x d l r s).clp.silence = s.clp.silence ∧ (goalAndRamp x d l r s).clp.telemetry = s.clp.telemetry ∧
    (goalAndRamp x d l r s).clp.counters = s.clp.counters := by
  simp [goalAndRamp]

@[simp] theorem trackSlope_frame (x : Side) (s : State) :
    (trackSlope x s).now = s.now ∧ (trackSlope x s).eStop = s.eStop ∧ (trackSlope x s).trc = s.trc ∧
    (trackSlope x s).plt = s.plt ∧ (trackSlope x s).target = s.target ∧ (trackSlope x s).slopeRaw = s.slopeRaw ∧
    (trackSlope x s).mlc = s.mlc ∧ (trackSlope x s).spr = s.spr ∧ (trackSlope x s).chd = s.chd ∧
    (trackSlope x s).cst = s.cst ∧ (trackSlope x s).load = s.load ∧ (trackSlope x s).tqs = s.tqs ∧
    (trackSlope x s).mpr = s.mpr ∧ (trackSlope x s).clp = s.clp ∧ (trackSlope x s).freeUsed = s.freeUsed ∧
    (trackSlope x s).pending = s.pending := by
  simp only [trackSlope]
  (repeat' split) <;> simp

@[simp] theorem driveValve_frame (x : Side) (e : Option Int) (s : State) :
    (driveValve x e s).now = s.now ∧ (driveValve x e s).eStop = s.eStop ∧ (driveValve x e s).trc = s.trc ∧
    (driveValve x e s).plt = s.plt ∧ (driveValve x e s).target = s.target ∧ (driveValve x e s).slopeRaw = s.slopeRaw ∧
    (driveValve x e s).mlc = s.mlc ∧ (driveValve x e s).spr = s.spr ∧ (driveValve x e s).chd = s.chd ∧
    (driveValve x e s).load = s.load ∧ (driveValve x e s).tqs = s.tqs ∧ (driveValve x e s).mpr = s.mpr ∧
    (driveValve x e s).freeUsed = s.freeUsed ∧ (driveValve x e s).pending = s.pending ∧
    (driveValve x e s).clp.rx = s.clp.rx ∧ (driveValve x e s).clp.buffer = s.clp.buffer ∧
    (driveValve x e s).clp.slot = s.clp.slot ∧ (driveValve x e s).clp.tx = s.clp.tx ∧
    (driveValve x e s).clp.enabled = s.clp.enabled ∧ (driveValve x e s).clp.silent = s.clp.silent ∧
    (driveValve x e s).clp.silence = s.clp.silence ∧ (driveValve x e s).clp.telemetry = s.clp.telemetry ∧
    (driveValve x e s).clp.counters = s.clp.counters := by
  simp [driveValve]

@[simp] theorem keepGrade_frame (x : Side) (b : Bool) (s : State) :
    (keepGrade x b s).now = s.now ∧ (keepGrade x b s).eStop = s.eStop ∧ (keepGrade x b s).trc = s.trc ∧
    (keepGrade x b s).plt = s.plt ∧ (keepGrade x b s).target = s.target ∧ (keepGrade x b s).slopeRaw = s.slopeRaw ∧
    (keepGrade x b s).mlc = s.mlc ∧ (keepGrade x b s).spr = s.spr ∧ (keepGrade x b s).chd = s.chd ∧
    (keepGrade x b s).cst = s.cst ∧ (keepGrade x b s).load = s.load ∧ (keepGrade x b s).tqs = s.tqs ∧
    (keepGrade x b s).mpr = s.mpr ∧ (keepGrade x b s).freeUsed = s.freeUsed ∧ (keepGrade x b s).pending = s.pending ∧
    (keepGrade x b s).clp.rx = s.clp.rx ∧ (keepGrade x b s).clp.buffer = s.clp.buffer ∧
    (keepGrade x b s).clp.slot = s.clp.slot ∧ (keepGrade x b s).clp.tx = s.clp.tx ∧
    (keepGrade x b s).clp.enabled = s.clp.enabled ∧ (keepGrade x b s).clp.silent = s.clp.silent ∧
    (keepGrade x b s).clp.silence = s.clp.silence ∧ (keepGrade x b s).clp.telemetry = s.clp.telemetry ∧
    (keepGrade x b s).clp.counters = s.clp.counters := by
  simp [keepGrade]

@[simp] theorem activeCycle_frame (x : Side) (d : Int) (s : State) :
    (activeCycle x d s).now = s.now ∧ (activeCycle x d s).eStop = s.eStop ∧ (activeCycle x d s).trc = s.trc ∧
    (activeCycle x d s).plt = s.plt ∧ (activeCycle x d s).target = s.target ∧ (activeCycle x d s).slopeRaw = s.slopeRaw ∧
    (activeCycle x d s).mlc = s.mlc ∧ (activeCycle x d s).spr = s.spr ∧ (activeCycle x d s).chd = s.chd ∧
    (activeCycle x d s).load = s.load ∧ (activeCycle x d s).mpr = s.mpr ∧ (activeCycle x d s).freeUsed = s.freeUsed ∧
    (activeCycle x d s).pending = s.pending ∧ (activeCycle x d s).clp.rx = s.clp.rx ∧
    (activeCycle x d s).clp.buffer = s.clp.buffer ∧ (activeCycle x d s).clp.slot = s.clp.slot ∧
    (activeCycle x d s).clp.tx = s.clp.tx ∧ (activeCycle x d s).clp.enabled = s.clp.enabled ∧
    (activeCycle x d s).clp.silent = s.clp.silent ∧ (activeCycle x d s).clp.silence = s.clp.silence ∧
    (activeCycle x d s).clp.telemetry = s.clp.telemetry ∧ (activeCycle x d s).clp.counters = s.clp.counters := by
  simp only [activeCycle]
  (repeat' split) <;> simp

@[simp] theorem restingCycle_frame (x : Side) (s : State) :
    (restingCycle x s).now = s.now ∧ (restingCycle x s).eStop = s.eStop ∧ (restingCycle x s).trc = s.trc ∧
    (restingCycle x s).plt = s.plt ∧ (restingCycle x s).target = s.target ∧ (restingCycle x s).slopeRaw = s.slopeRaw ∧
    (restingCycle x s).mlc = s.mlc ∧ (restingCycle x s).spr = s.spr ∧ (restingCycle x s).chd = s.chd ∧
    (restingCycle x s).cst = s.cst ∧ (restingCycle x s).load = s.load ∧ (restingCycle x s).tqs = s.tqs ∧
    (restingCycle x s).mpr = s.mpr ∧ (restingCycle x s).freeUsed = s.freeUsed ∧ (restingCycle x s).pending = s.pending ∧
    (restingCycle x s).clp.rx = s.clp.rx ∧ (restingCycle x s).clp.buffer = s.clp.buffer ∧
    (restingCycle x s).clp.slot = s.clp.slot ∧ (restingCycle x s).clp.tx = s.clp.tx ∧
    (restingCycle x s).clp.enabled = s.clp.enabled ∧ (restingCycle x s).clp.silent = s.clp.silent ∧
    (restingCycle x s).clp.silence = s.clp.silence ∧ (restingCycle x s).clp.telemetry = s.clp.telemetry ∧
    (restingCycle x s).clp.counters = s.clp.counters := by
  simp [restingCycle]

@[simp] theorem recordPassedOut_foldl_frame (ks : List Marker) (s : State) :
    (ks.foldl recordPassedOut s).now = s.now ∧ (ks.foldl recordPassedOut s).eStop = s.eStop ∧
    (ks.foldl recordPassedOut s).trc = s.trc ∧ (ks.foldl recordPassedOut s).plt = s.plt ∧
    (ks.foldl recordPassedOut s).chL = s.chL ∧ (ks.foldl recordPassedOut s).chR = s.chR ∧
    (ks.foldl recordPassedOut s).target = s.target ∧ (ks.foldl recordPassedOut s).slopeRaw = s.slopeRaw ∧
    (ks.foldl recordPassedOut s).spr = s.spr ∧ (ks.foldl recordPassedOut s).chd = s.chd ∧
    (ks.foldl recordPassedOut s).cst = s.cst ∧ (ks.foldl recordPassedOut s).load = s.load ∧
    (ks.foldl recordPassedOut s).tqs = s.tqs ∧ (ks.foldl recordPassedOut s).mpr = s.mpr ∧
    (ks.foldl recordPassedOut s).freeUsed = s.freeUsed ∧ (ks.foldl recordPassedOut s).pending = s.pending ∧
    (ks.foldl recordPassedOut s).clp.rx = s.clp.rx ∧ (ks.foldl recordPassedOut s).clp.buffer = s.clp.buffer ∧
    (ks.foldl recordPassedOut s).clp.slot = s.clp.slot ∧ (ks.foldl recordPassedOut s).clp.tx = s.clp.tx ∧
    (ks.foldl recordPassedOut s).clp.enabled = s.clp.enabled ∧ (ks.foldl recordPassedOut s).clp.silent = s.clp.silent ∧
    (ks.foldl recordPassedOut s).clp.silence = s.clp.silence ∧
    (ks.foldl recordPassedOut s).clp.telemetry = s.clp.telemetry ∧
    (ks.foldl recordPassedOut s).clp.counters = s.clp.counters := by
  induction ks generalizing s with
  | nil => simp
  | cons k ks ih => simp [List.foldl_cons, ih, recordPassedOut]

@[simp] theorem evaluateMarkers_frame (d : Int) (s : State) :
    (evaluateMarkers d s).now = s.now ∧ (evaluateMarkers d s).eStop = s.eStop ∧ (evaluateMarkers d s).trc = s.trc ∧
    (evaluateMarkers d s).plt = s.plt ∧ (evaluateMarkers d s).chL = s.chL ∧ (evaluateMarkers d s).chR = s.chR ∧
    (evaluateMarkers d s).target = s.target ∧ (evaluateMarkers d s).slopeRaw = s.slopeRaw ∧
    (evaluateMarkers d s).spr = s.spr ∧ (evaluateMarkers d s).chd = s.chd ∧ (evaluateMarkers d s).cst = s.cst ∧
    (evaluateMarkers d s).load = s.load ∧ (evaluateMarkers d s).tqs = s.tqs ∧ (evaluateMarkers d s).mpr = s.mpr ∧
    (evaluateMarkers d s).freeUsed = s.freeUsed ∧ (evaluateMarkers d s).pending = s.pending ∧
    (evaluateMarkers d s).clp.rx = s.clp.rx ∧ (evaluateMarkers d s).clp.buffer = s.clp.buffer ∧
    (evaluateMarkers d s).clp.slot = s.clp.slot ∧ (evaluateMarkers d s).clp.tx = s.clp.tx ∧
    (evaluateMarkers d s).clp.enabled = s.clp.enabled ∧ (evaluateMarkers d s).clp.silent = s.clp.silent ∧
    (evaluateMarkers d s).clp.silence = s.clp.silence ∧ (evaluateMarkers d s).clp.telemetry = s.clp.telemetry ∧
    (evaluateMarkers d s).clp.counters = s.clp.counters := by
  simp [evaluateMarkers]

@[simp] theorem loopCycle_frame (x : Side) (p l c : Nat) (s : State) :
    (loopCycle x p l c s).now = s.now ∧ (loopCycle x p l c s).eStop = s.eStop ∧ (loopCycle x p l c s).trc = s.trc ∧
    (loopCycle x p l c s).plt = s.plt ∧ (loopCycle x p l c s).target = s.target ∧ (loopCycle x p l c s).spr = s.spr ∧
    (loopCycle x p l c s).chd = s.chd ∧ (loopCycle x p l c s).load = s.load ∧ (loopCycle x p l c s).mpr = s.mpr ∧
    (loopCycle x p l c s).freeUsed = s.freeUsed ∧ (loopCycle x p l c s).pending = s.pending ∧
    (loopCycle x p l c s).clp.rx = s.clp.rx ∧ (loopCycle x p l c s).clp.buffer = s.clp.buffer ∧
    (loopCycle x p l c s).clp.slot = s.clp.slot ∧ (loopCycle x p l c s).clp.tx = s.clp.tx ∧
    (loopCycle x p l c s).clp.enabled = s.clp.enabled ∧ (loopCycle x p l c s).clp.silent = s.clp.silent ∧
    (loopCycle x p l c s).clp.silence = s.clp.silence ∧ (loopCycle x p l c s).clp.telemetry = s.clp.telemetry ∧
    (loopCycle x p l c s).clp.counters = s.clp.counters := by
  simp only [loopCycle]
  (repeat' split) <;> simp

@[simp] theorem jogExpiry_frame (x : Side) (s : State) :
    (jogExpiry x s).now = s.now ∧ (jogExpiry x s).eStop = s.eStop ∧ (jogExpiry x s).trc = s.trc ∧
    (jogExpiry x s).plt = s.plt ∧ (jogExpiry x s).target = s.target ∧ (jogExpiry x s).slopeRaw = s.slopeRaw ∧
    (jogExpiry x s).spr = s.spr ∧ (jogExpiry x s).chd = s.chd ∧ (jogExpiry x s).cst = s.cst ∧
    (jogExpiry x s).load = s.load ∧ (jogExpiry x s).mpr = s.mpr ∧ (jogExpiry x s).freeUsed = s.freeUsed ∧
    (jogExpiry x s).pending = s.pending ∧ (jogExpiry x s).clp.rx = s.clp.rx ∧ (jogExpiry x s).clp.buffer = s.clp.buffer ∧
    (jogExpiry x s).clp.slot = s.clp.slot ∧ (jogExpiry x s).clp.tx = s.clp.tx ∧
    (jogExpiry x s).clp.enabled = s.clp.enabled ∧ (jogExpiry x s).clp.silent = s.clp.silent ∧
    (jogExpiry x s).clp.silence = s.clp.silence ∧ (jogExpiry x s).clp.telemetry = s.clp.telemetry ∧
    (jogExpiry x s).clp.counters = s.clp.counters := by
  simp only [jogExpiry]
  (repeat' split) <;> simp

@[simp] theorem engageOne_frame (x : Side) (s : State) :
    ((fun s => engageOne s x) s).now = s.now ∧ ((fun s => engageOne s x) s).eStop = s.eStop ∧
    ((fun s => engageOne s x) s).trc = s.trc ∧ ((fun s => engageOne s x) s).plt = s.plt ∧
    ((fun s => engageOne s x) s).target = s.target ∧ ((fun s => engageOne s x) s).slopeRaw = s.slopeRaw ∧
    ((fun s => engageOne s x) s).mlc = s.mlc ∧ ((fun s => engageOne s x) s).spr = s.spr ∧
    ((fun s => engageOne s x) s).chd = s.chd ∧ ((fun s => engageOne s x) s).cst = s.cst ∧
    ((fun s => engageOne s x) s).load = s.load ∧ ((fun s => engageOne s x) s).tqs = s.tqs ∧
    ((fun s => engageOne s x) s).mpr = s.mpr ∧ ((fun s => engageOne s x) s).freeUsed = s.freeUsed ∧
    ((fun s => engageOne s x) s).pending = s.pending ∧ ((fun s => engageOne s x) s).clp.rx = s.clp.rx ∧
    ((fun s => engageOne s x) s).clp.buffer = s.clp.buffer ∧ ((fun s => engageOne s x) s).clp.slot = s.clp.slot ∧
    ((fun s => engageOne s x) s).clp.tx = s.clp.tx ∧ ((fun s => engageOne s x) s).clp.enabled = s.clp.enabled ∧
    ((fun s => engageOne s x) s).clp.silent = s.clp.silent ∧ ((fun s => engageOne s x) s).clp.silence = s.clp.silence ∧
    ((fun s => engageOne s x) s).clp.telemetry = s.clp.telemetry ∧
    ((fun s => engageOne s x) s).clp.counters = s.clp.counters := by
  simp only [engageOne]
  (repeat' split) <;> simp

@[simp] theorem selectTarget_frame (x : Target) (s : State) :
    (selectTarget x s).now = s.now ∧ (selectTarget x s).eStop = s.eStop ∧ (selectTarget x s).trc = s.trc ∧
    (selectTarget x s).plt = s.plt ∧ (selectTarget x s).slopeRaw = s.slopeRaw ∧ (selectTarget x s).spr = s.spr ∧
    (selectTarget x s).chd = s.chd ∧ (selectTarget x s).cst = s.cst ∧ (selectTarget x s).load = s.load ∧
    (selectTarget x s).mpr = s.mpr ∧ (selectTarget x s).freeUsed = s.freeUsed ∧ (selectTarget x s).pending = s.pending ∧
    (selectTarget x s).clp.rx = s.clp.rx ∧ (selectTarget x s).clp.buffer = s.clp.buffer ∧
    (selectTarget x s).clp.slot = s.clp.slot ∧ (selectTarget x s).clp.tx = s.clp.tx ∧
    (selectTarget x s).clp.enabled = s.clp.enabled ∧ (selectTarget x s).clp.silent = s.clp.silent ∧
    (selectTarget x s).clp.silence = s.clp.silence ∧ (selectTarget x s).clp.telemetry = s.clp.telemetry ∧
    (selectTarget x s).clp.counters = s.clp.counters := by
  cases x <;> simp [selectTarget]

@[simp] theorem sendTrigger_frame (c : Int) (m : LineMark) (s : State) :
    (sendTrigger c m s).now = s.now ∧ (sendTrigger c m s).eStop = s.eStop ∧ (sendTrigger c m s).trc = s.trc ∧
    (sendTrigger c m s).plt = s.plt ∧ (sendTrigger c m s).chL = s.chL ∧ (sendTrigger c m s).chR = s.chR ∧
    (sendTrigger c m s).target = s.target ∧ (sendTrigger c m s).slopeRaw = s.slopeRaw ∧ (sendTrigger c m s).mlc = s.mlc ∧
    (sendTrigger c m s).chd = s.chd ∧ (sendTrigger c m s).cst = s.cst ∧ (sendTrigger c m s).load = s.load ∧
    (sendTrigger c m s).tqs = s.tqs ∧ (sendTrigger c m s).mpr = s.mpr ∧ (sendTrigger c m s).clp = s.clp ∧
    (sendTrigger c m s).freeUsed = s.freeUsed ∧ (sendTrigger c m s).pending = s.pending := by
  simp [sendTrigger]

@[simp] theorem scanTrigger_frame (c : Int) (s : State) :
    (scanTrigger c s).now = s.now ∧ (scanTrigger c s).eStop = s.eStop ∧ (scanTrigger c s).plt = s.plt ∧
    (scanTrigger c s).chL = s.chL ∧ (scanTrigger c s).chR = s.chR ∧ (scanTrigger c s).target = s.target ∧
    (scanTrigger c s).slopeRaw = s.slopeRaw ∧ (scanTrigger c s).mlc = s.mlc ∧ (scanTrigger c s).chd = s.chd ∧
    (scanTrigger c s).cst = s.cst ∧ (scanTrigger c s).load = s.load ∧ (scanTrigger c s).tqs = s.tqs ∧
    (scanTrigger c s).mpr = s.mpr ∧ (scanTrigger c s).clp = s.clp ∧ (scanTrigger c s).freeUsed = s.freeUsed ∧
    (scanTrigger c s).pending = s.pending := by
  simp only [scanTrigger]
  (repeat' split) <;> simp

@[simp] theorem idleTrigger_frame (s : State) :
    (idleTrigger s).now = s.now ∧ (idleTrigger s).eStop = s.eStop ∧ (idleTrigger s).trc = s.trc ∧
    (idleTrigger s).plt = s.plt ∧ (idleTrigger s).chL = s.chL ∧ (idleTrigger s).chR = s.chR ∧
    (idleTrigger s).target = s.target ∧ (idleTrigger s).slopeRaw = s.slopeRaw ∧ (idleTrigger s).mlc = s.mlc ∧
    (idleTrigger s).chd = s.chd ∧ (idleTrigger s).cst = s.cst ∧ (idleTrigger s).load = s.load ∧
    (idleTrigger s).tqs = s.tqs ∧ (idleTrigger s).mpr = s.mpr ∧ (idleTrigger s).clp = s.clp ∧
    (idleTrigger s).freeUsed = s.freeUsed ∧ (idleTrigger s).pending = s.pending := by
  simp only [idleTrigger]
  (repeat' split) <;> simp

@[simp] theorem lineTimeout_frame (s : State) :
    (lineTimeout s).now = s.now ∧ (lineTimeout s).eStop = s.eStop ∧ (lineTimeout s).trc = s.trc ∧
    (lineTimeout s).plt = s.plt ∧ (lineTimeout s).chL = s.chL ∧ (lineTimeout s).chR = s.chR ∧
    (lineTimeout s).target = s.target ∧ (lineTimeout s).slopeRaw = s.slopeRaw ∧ (lineTimeout s).mlc = s.mlc ∧
    (lineTimeout s).chd = s.chd ∧ (lineTimeout s).cst = s.cst ∧ (lineTimeout s).load = s.load ∧
    (lineTimeout s).tqs = s.tqs ∧ (lineTimeout s).mpr = s.mpr ∧ (lineTimeout s).clp = s.clp ∧
    (lineTimeout s).freeUsed = s.freeUsed ∧ (lineTimeout s).pending = s.pending := by
  simp only [lineTimeout]
  (repeat' split) <;> simp

@[simp] theorem offerLine_frame (l : Line) (s : State) :
    (offerLine l s).now = s.now ∧ (offerLine l s).eStop = s.eStop ∧ (offerLine l s).trc = s.trc ∧
    (offerLine l s).plt = s.plt ∧ (offerLine l s).chL = s.chL ∧ (offerLine l s).chR = s.chR ∧
    (offerLine l s).target = s.target ∧ (offerLine l s).slopeRaw = s.slopeRaw ∧ (offerLine l s).mlc = s.mlc ∧
    (offerLine l s).chd = s.chd ∧ (offerLine l s).load = s.load ∧ (offerLine l s).tqs = s.tqs ∧
    (offerLine l s).mpr = s.mpr ∧ (offerLine l s).freeUsed = s.freeUsed ∧ (offerLine l s).pending = s.pending ∧
    (offerLine l s).clp.rx = s.clp.rx ∧ (offerLine l s).clp.buffer = s.clp.buffer ∧ (offerLine l s).clp.slot = s.clp.slot ∧
    (offerLine l s).clp.tx = s.clp.tx ∧ (offerLine l s).clp.enabled = s.clp.enabled ∧
    (offerLine l s).clp.silent = s.clp.silent ∧ (offerLine l s).clp.silence = s.clp.silence ∧
    (offerLine l s).clp.telemetry = s.clp.telemetry ∧ (offerLine l s).clp.counters = s.clp.counters := by
  simp only [offerLine]
  (repeat' split) <;> simp

@[simp] theorem takeLine_frame (n : Nat) (ps : List Point) (s : State) :
    (takeLine n ps s).now = s.now ∧ (takeLine n ps s).eStop = s.eStop ∧ (takeLine n ps s).trc = s.trc ∧
    (takeLine n ps s).plt = s.plt ∧ (takeLine n ps s).chL = s.chL ∧ (takeLine n ps s).chR = s.chR ∧
    (takeLine n ps s).target = s.target ∧ (takeLine n ps s).slopeRaw = s.slopeRaw ∧ (takeLine n ps s).mlc = s.mlc ∧
    (takeLine n ps s).chd = s.chd ∧ (takeLine n ps s).load = s.load ∧ (takeLine n ps s).tqs = s.tqs ∧
    (takeLine n ps s).mpr = s.mpr ∧ (takeLine n ps s).freeUsed = s.freeUsed ∧ (takeLine n ps s).pending = s.pending ∧
    (takeLine n ps s).clp.rx = s.clp.rx ∧ (takeLine n ps s).clp.buffer = s.clp.buffer ∧
    (takeLine n ps s).clp.slot = s.clp.slot ∧ (takeLine n ps s).clp.tx = s.clp.tx ∧
    (takeLine n ps s).clp.enabled = s.clp.enabled ∧ (takeLine n ps s).clp.silent = s.clp.silent ∧
    (takeLine n ps s).clp.silence = s.clp.silence ∧ (takeLine n ps s).clp.telemetry = s.clp.telemetry ∧
    (takeLine n ps s).clp.counters = s.clp.counters := by
  simp only [takeLine, countStray]
  (repeat' split) <;> simp

@[simp] theorem takeScannerFrame_frame (f : Frame) (s : State) :
    (takeScannerFrame f s).now = s.now ∧ (takeScannerFrame f s).eStop = s.eStop ∧ (takeScannerFrame f s).trc = s.trc ∧
    (takeScannerFrame f s).plt = s.plt ∧ (takeScannerFrame f s).chL = s.chL ∧ (takeScannerFrame f s).chR = s.chR ∧
    (takeScannerFrame f s).target = s.target ∧ (takeScannerFrame f s).slopeRaw = s.slopeRaw ∧
    (takeScannerFrame f s).mlc = s.mlc ∧ (takeScannerFrame f s).chd = s.chd ∧ (takeScannerFrame f s).load = s.load ∧
    (takeScannerFrame f s).tqs = s.tqs ∧ (takeScannerFrame f s).mpr = s.mpr ∧
    (takeScannerFrame f s).freeUsed = s.freeUsed ∧ (takeScannerFrame f s).pending = s.pending ∧
    (takeScannerFrame f s).clp.rx = s.clp.rx ∧ (takeScannerFrame f s).clp.buffer = s.clp.buffer ∧
    (takeScannerFrame f s).clp.slot = s.clp.slot ∧ (takeScannerFrame f s).clp.tx = s.clp.tx ∧
    (takeScannerFrame f s).clp.enabled = s.clp.enabled ∧ (takeScannerFrame f s).clp.silent = s.clp.silent ∧
    (takeScannerFrame f s).clp.silence = s.clp.silence ∧ (takeScannerFrame f s).clp.telemetry = s.clp.telemetry ∧
    (takeScannerFrame f s).clp.counters = s.clp.counters := by
  simp only [takeScannerFrame, countBad]
  (repeat' split) <;> simp

@[simp] theorem scannerByte_frame (b : Byte) (s : State) :
    ((fun s => scannerByte s b) s).now = s.now ∧ ((fun s => scannerByte s b) s).eStop = s.eStop ∧
    ((fun s => scannerByte s b) s).trc = s.trc ∧ ((fun s => scannerByte s b) s).plt = s.plt ∧
    ((fun s => scannerByte s b) s).chL = s.chL ∧ ((fun s => scannerByte s b) s).chR = s.chR ∧
    ((fun s => scannerByte s b) s).target = s.target ∧ ((fun s => scannerByte s b) s).slopeRaw = s.slopeRaw ∧
    ((fun s => scannerByte s b) s).mlc = s.mlc ∧ ((fun s => scannerByte s b) s).chd = s.chd ∧
    ((fun s => scannerByte s b) s).load = s.load ∧ ((fun s => scannerByte s b) s).tqs = s.tqs ∧
    ((fun s => scannerByte s b) s).mpr = s.mpr ∧ ((fun s => scannerByte s b) s).freeUsed = s.freeUsed ∧
    ((fun s => scannerByte s b) s).pending = s.pending ∧ ((fun s => scannerByte s b) s).clp.rx = s.clp.rx ∧
    ((fun s => scannerByte s b) s).clp.buffer = s.clp.buffer ∧ ((fun s => scannerByte s b) s).clp.slot = s.clp.slot ∧
    ((fun s => scannerByte s b) s).clp.tx = s.clp.tx ∧ ((fun s => scannerByte s b) s).clp.enabled = s.clp.enabled ∧
    ((fun s => scannerByte s b) s).clp.silent = s.clp.silent ∧ ((fun s => scannerByte s b) s).clp.silence = s.clp.silence ∧
    ((fun s => scannerByte s b) s).clp.telemetry = s.clp.telemetry ∧
    ((fun s => scannerByte s b) s).clp.counters = s.clp.counters := by
  simp only [scannerByte, countBad]
  (repeat' split) <;> simp

@[simp] theorem scannerByte_foldl_frame (bs : List Byte) (s : State) :
    (bs.foldl scannerByte s).now = s.now ∧ (bs.foldl scannerByte s).eStop = s.eStop ∧
    (bs.foldl scannerByte s).trc = s.trc ∧ (bs.foldl scannerByte s).plt = s.plt ∧ (bs.foldl scannerByte s).chL = s.chL ∧
    (bs.foldl scannerByte s).chR = s.chR ∧ (bs.foldl scannerByte s).target = s.target ∧
    (bs.foldl scannerByte s).slopeRaw = s.slopeRaw ∧ (bs.foldl scannerByte s).mlc = s.mlc ∧
    (bs.foldl scannerByte s).chd = s.chd ∧ (bs.foldl scannerByte s).load = s.load ∧ (bs.foldl scannerByte s).tqs = s.tqs ∧
    (bs.foldl scannerByte s).mpr = s.mpr ∧ (bs.foldl scannerByte s).freeUsed = s.freeUsed ∧
    (bs.foldl scannerByte s).pending = s.pending ∧ (bs.foldl scannerByte s).clp.rx = s.clp.rx ∧
    (bs.foldl scannerByte s).clp.buffer = s.clp.buffer ∧ (bs.foldl scannerByte s).clp.slot = s.clp.slot ∧
    (bs.foldl scannerByte s).clp.tx = s.clp.tx ∧ (bs.foldl scannerByte s).clp.enabled = s.clp.enabled ∧
    (bs.foldl scannerByte s).clp.silent = s.clp.silent ∧ (bs.foldl scannerByte s).clp.silence = s.clp.silence ∧
    (bs.foldl scannerByte s).clp.telemetry = s.clp.telemetry ∧ (bs.foldl scannerByte s).clp.counters = s.clp.counters := by
  induction bs generalizing s with
  | nil => simp
  | cons b bs ih => simp [List.foldl_cons, ih]

@[simp] theorem scannerGap_frame (s : State) :
    (scannerGap s).now = s.now ∧ (scannerGap s).eStop = s.eStop ∧ (scannerGap s).trc = s.trc ∧ (scannerGap s).plt = s.plt ∧
    (scannerGap s).chL = s.chL ∧ (scannerGap s).chR = s.chR ∧ (scannerGap s).target = s.target ∧
    (scannerGap s).slopeRaw = s.slopeRaw ∧ (scannerGap s).mlc = s.mlc ∧ (scannerGap s).chd = s.chd ∧
    (scannerGap s).cst = s.cst ∧ (scannerGap s).load = s.load ∧ (scannerGap s).tqs = s.tqs ∧ (scannerGap s).mpr = s.mpr ∧
    (scannerGap s).clp = s.clp ∧ (scannerGap s).freeUsed = s.freeUsed ∧ (scannerGap s).pending = s.pending := by
  simp only [scannerGap, countBad]
  (repeat' split) <;> simp

@[simp] theorem publishSki_frame (x : Side) (cs : List Cell) (s : State) :
    (publishSki x cs s).now = s.now ∧ (publishSki x cs s).eStop = s.eStop ∧ (publishSki x cs s).trc = s.trc ∧
    (publishSki x cs s).plt = s.plt ∧ (publishSki x cs s).chL = s.chL ∧ (publishSki x cs s).chR = s.chR ∧
    (publishSki x cs s).target = s.target ∧ (publishSki x cs s).slopeRaw = s.slopeRaw ∧ (publishSki x cs s).mlc = s.mlc ∧
    (publishSki x cs s).chd = s.chd ∧ (publishSki x cs s).cst = s.cst ∧ (publishSki x cs s).load = s.load ∧
    (publishSki x cs s).tqs = s.tqs ∧ (publishSki x cs s).mpr = s.mpr ∧ (publishSki x cs s).clp = s.clp ∧
    (publishSki x cs s).freeUsed = s.freeUsed ∧ (publishSki x cs s).pending = s.pending := by
  simp only [publishSki]
  (repeat' split) <;> simp

@[simp] theorem applyJudgements_frame (f l : Bool) (s : State) :
    (applyJudgements f l s).now = s.now ∧ (applyJudgements f l s).eStop = s.eStop ∧ (applyJudgements f l s).trc = s.trc ∧
    (applyJudgements f l s).plt = s.plt ∧ (applyJudgements f l s).chL = s.chL ∧ (applyJudgements f l s).chR = s.chR ∧
    (applyJudgements f l s).target = s.target ∧ (applyJudgements f l s).slopeRaw = s.slopeRaw ∧
    (applyJudgements f l s).mlc = s.mlc ∧ (applyJudgements f l s).chd = s.chd ∧ (applyJudgements f l s).cst = s.cst ∧
    (applyJudgements f l s).load = s.load ∧ (applyJudgements f l s).tqs = s.tqs ∧ (applyJudgements f l s).mpr = s.mpr ∧
    (applyJudgements f l s).freeUsed = s.freeUsed ∧ (applyJudgements f l s).pending = s.pending ∧
    (applyJudgements f l s).clp.rx = s.clp.rx ∧ (applyJudgements f l s).clp.buffer = s.clp.buffer ∧
    (applyJudgements f l s).clp.slot = s.clp.slot ∧ (applyJudgements f l s).clp.tx = s.clp.tx ∧
    (applyJudgements f l s).clp.enabled = s.clp.enabled ∧ (applyJudgements f l s).clp.silent = s.clp.silent ∧
    (applyJudgements f l s).clp.silence = s.clp.silence ∧ (applyJudgements f l s).clp.telemetry = s.clp.telemetry ∧
    (applyJudgements f l s).clp.counters = s.clp.counters := by
  simp [applyJudgements]

@[simp] theorem suspendHandOver_frame (s : State) :
    (suspendHandOver s).now = s.now ∧ (suspendHandOver s).eStop = s.eStop ∧ (suspendHandOver s).trc = s.trc ∧
    (suspendHandOver s).plt = s.plt ∧ (suspendHandOver s).chL = s.chL ∧ (suspendHandOver s).chR = s.chR ∧
    (suspendHandOver s).target = s.target ∧ (suspendHandOver s).slopeRaw = s.slopeRaw ∧ (suspendHandOver s).mlc = s.mlc ∧
    (suspendHandOver s).spr = s.spr ∧ (suspendHandOver s).cst = s.cst ∧ (suspendHandOver s).load = s.load ∧
    (suspendHandOver s).tqs = s.tqs ∧ (suspendHandOver s).mpr = s.mpr ∧ (suspendHandOver s).clp = s.clp ∧
    (suspendHandOver s).freeUsed = s.freeUsed ∧ (suspendHandOver s).pending = s.pending := by
  simp [suspendHandOver]

@[simp] theorem checkContinuity_frame (c : Int) (s : State) :
    (checkContinuity c s).now = s.now ∧ (checkContinuity c s).eStop = s.eStop ∧ (checkContinuity c s).trc = s.trc ∧
    (checkContinuity c s).plt = s.plt ∧ (checkContinuity c s).chL = s.chL ∧ (checkContinuity c s).chR = s.chR ∧
    (checkContinuity c s).target = s.target ∧ (checkContinuity c s).slopeRaw = s.slopeRaw ∧
    (checkContinuity c s).mlc = s.mlc ∧ (checkContinuity c s).spr = s.spr ∧ (checkContinuity c s).cst = s.cst ∧
    (checkContinuity c s).load = s.load ∧ (checkContinuity c s).tqs = s.tqs ∧ (checkContinuity c s).mpr = s.mpr ∧
    (checkContinuity c s).clp = s.clp ∧ (checkContinuity c s).freeUsed = s.freeUsed ∧
    (checkContinuity c s).pending = s.pending := by
  simp only [checkContinuity]
  (repeat' split) <;> simp

@[simp] theorem tripDetector_frame (c : Int) (s : State) :
    (tripDetector c s).now = s.now ∧ (tripDetector c s).eStop = s.eStop ∧ (tripDetector c s).trc = s.trc ∧
    (tripDetector c s).plt = s.plt ∧ (tripDetector c s).chL = s.chL ∧ (tripDetector c s).chR = s.chR ∧
    (tripDetector c s).target = s.target ∧ (tripDetector c s).slopeRaw = s.slopeRaw ∧ (tripDetector c s).spr = s.spr ∧
    (tripDetector c s).cst = s.cst ∧ (tripDetector c s).load = s.load ∧ (tripDetector c s).tqs = s.tqs ∧
    (tripDetector c s).mpr = s.mpr ∧ (tripDetector c s).freeUsed = s.freeUsed ∧ (tripDetector c s).pending = s.pending ∧
    (tripDetector c s).clp.rx = s.clp.rx ∧ (tripDetector c s).clp.buffer = s.clp.buffer ∧
    (tripDetector c s).clp.slot = s.clp.slot ∧ (tripDetector c s).clp.tx = s.clp.tx ∧
    (tripDetector c s).clp.enabled = s.clp.enabled ∧ (tripDetector c s).clp.silent = s.clp.silent ∧
    (tripDetector c s).clp.silence = s.clp.silence ∧ (tripDetector c s).clp.telemetry = s.clp.telemetry ∧
    (tripDetector c s).clp.counters = s.clp.counters := by
  simp [tripDetector]

@[simp] theorem moveDetecting_frame (c : Int) (s : State) :
    (moveDetecting c s).now = s.now ∧ (moveDetecting c s).eStop = s.eStop ∧ (moveDetecting c s).trc = s.trc ∧
    (moveDetecting c s).plt = s.plt ∧ (moveDetecting c s).chL = s.chL ∧ (moveDetecting c s).chR = s.chR ∧
    (moveDetecting c s).target = s.target ∧ (moveDetecting c s).slopeRaw = s.slopeRaw ∧ (moveDetecting c s).spr = s.spr ∧
    (moveDetecting c s).cst = s.cst ∧ (moveDetecting c s).load = s.load ∧ (moveDetecting c s).tqs = s.tqs ∧
    (moveDetecting c s).mpr = s.mpr ∧ (moveDetecting c s).freeUsed = s.freeUsed ∧ (moveDetecting c s).pending = s.pending ∧
    (moveDetecting c s).clp.rx = s.clp.rx ∧ (moveDetecting c s).clp.buffer = s.clp.buffer ∧
    (moveDetecting c s).clp.slot = s.clp.slot ∧ (moveDetecting c s).clp.tx = s.clp.tx ∧
    (moveDetecting c s).clp.enabled = s.clp.enabled ∧ (moveDetecting c s).clp.silent = s.clp.silent ∧
    (moveDetecting c s).clp.silence = s.clp.silence ∧ (moveDetecting c s).clp.telemetry = s.clp.telemetry ∧
    (moveDetecting c s).clp.counters = s.clp.counters := by
  simp only [moveDetecting]
  (repeat' split) <;> simp

@[simp] theorem moveNonDetecting_frame (s : State) :
    (moveNonDetecting s).now = s.now ∧ (moveNonDetecting s).eStop = s.eStop ∧ (moveNonDetecting s).trc = s.trc ∧
    (moveNonDetecting s).plt = s.plt ∧ (moveNonDetecting s).chL = s.chL ∧ (moveNonDetecting s).chR = s.chR ∧
    (moveNonDetecting s).target = s.target ∧ (moveNonDetecting s).slopeRaw = s.slopeRaw ∧
    (moveNonDetecting s).mlc = s.mlc ∧ (moveNonDetecting s).spr = s.spr ∧ (moveNonDetecting s).cst = s.cst ∧
    (moveNonDetecting s).load = s.load ∧ (moveNonDetecting s).tqs = s.tqs ∧ (moveNonDetecting s).mpr = s.mpr ∧
    (moveNonDetecting s).clp = s.clp ∧ (moveNonDetecting s).freeUsed = s.freeUsed ∧
    (moveNonDetecting s).pending = s.pending := by
  simp only [moveNonDetecting]
  (repeat' split) <;> simp

@[simp] theorem enterLine_frame (l : Line) (g : List (Option Nat)) (s : State) :
    (enterLine l g s).now = s.now ∧ (enterLine l g s).eStop = s.eStop ∧ (enterLine l g s).trc = s.trc ∧
    (enterLine l g s).plt = s.plt ∧ (enterLine l g s).chL = s.chL ∧ (enterLine l g s).chR = s.chR ∧
    (enterLine l g s).target = s.target ∧ (enterLine l g s).slopeRaw = s.slopeRaw ∧ (enterLine l g s).mlc = s.mlc ∧
    (enterLine l g s).spr = s.spr ∧ (enterLine l g s).cst = s.cst ∧ (enterLine l g s).load = s.load ∧
    (enterLine l g s).tqs = s.tqs ∧ (enterLine l g s).mpr = s.mpr ∧ (enterLine l g s).clp = s.clp ∧
    (enterLine l g s).freeUsed = s.freeUsed ∧ (enterLine l g s).pending = s.pending := by
  simp [enterLine]

@[simp] theorem handOver_frame (l : Line) (g : List (Option Nat)) (s : State) :
    ((fun s => (handOver l g s).1) s).now = s.now ∧ ((fun s => (handOver l g s).1) s).eStop = s.eStop ∧
    ((fun s => (handOver l g s).1) s).trc = s.trc ∧ ((fun s => (handOver l g s).1) s).plt = s.plt ∧
    ((fun s => (handOver l g s).1) s).chL = s.chL ∧ ((fun s => (handOver l g s).1) s).chR = s.chR ∧
    ((fun s => (handOver l g s).1) s).target = s.target ∧ ((fun s => (handOver l g s).1) s).slopeRaw = s.slopeRaw ∧
    ((fun s => (handOver l g s).1) s).spr = s.spr ∧ ((fun s => (handOver l g s).1) s).cst = s.cst ∧
    ((fun s => (handOver l g s).1) s).load = s.load ∧ ((fun s => (handOver l g s).1) s).tqs = s.tqs ∧
    ((fun s => (handOver l g s).1) s).mpr = s.mpr ∧ ((fun s => (handOver l g s).1) s).freeUsed = s.freeUsed ∧
    ((fun s => (handOver l g s).1) s).pending = s.pending ∧ ((fun s => (handOver l g s).1) s).clp.rx = s.clp.rx ∧
    ((fun s => (handOver l g s).1) s).clp.buffer = s.clp.buffer ∧ ((fun s => (handOver l g s).1) s).clp.slot = s.clp.slot ∧
    ((fun s => (handOver l g s).1) s).clp.tx = s.clp.tx ∧ ((fun s => (handOver l g s).1) s).clp.enabled = s.clp.enabled ∧
    ((fun s => (handOver l g s).1) s).clp.silent = s.clp.silent ∧
    ((fun s => (handOver l g s).1) s).clp.silence = s.clp.silence ∧
    ((fun s => (handOver l g s).1) s).clp.telemetry = s.clp.telemetry ∧
    ((fun s => (handOver l g s).1) s).clp.counters = s.clp.counters := by
  simp only [handOver]
  (repeat' split) <;> simp

@[simp] theorem detectLine_frame (l : Line) (g : List (Option Nat)) (s : State) :
    ((fun s => (detectLine l g s).1) s).now = s.now ∧ ((fun s => (detectLine l g s).1) s).eStop = s.eStop ∧
    ((fun s => (detectLine l g s).1) s).trc = s.trc ∧ ((fun s => (detectLine l g s).1) s).plt = s.plt ∧
    ((fun s => (detectLine l g s).1) s).chL = s.chL ∧ ((fun s => (detectLine l g s).1) s).chR = s.chR ∧
    ((fun s => (detectLine l g s).1) s).target = s.target ∧ ((fun s => (detectLine l g s).1) s).slopeRaw = s.slopeRaw ∧
    ((fun s => (detectLine l g s).1) s).spr = s.spr ∧ ((fun s => (detectLine l g s).1) s).cst = s.cst ∧
    ((fun s => (detectLine l g s).1) s).load = s.load ∧ ((fun s => (detectLine l g s).1) s).tqs = s.tqs ∧
    ((fun s => (detectLine l g s).1) s).mpr = s.mpr ∧ ((fun s => (detectLine l g s).1) s).freeUsed = s.freeUsed ∧
    ((fun s => (detectLine l g s).1) s).pending = s.pending ∧ ((fun s => (detectLine l g s).1) s).clp.rx = s.clp.rx ∧
    ((fun s => (detectLine l g s).1) s).clp.buffer = s.clp.buffer ∧
    ((fun s => (detectLine l g s).1) s).clp.slot = s.clp.slot ∧ ((fun s => (detectLine l g s).1) s).clp.tx = s.clp.tx ∧
    ((fun s => (detectLine l g s).1) s).clp.enabled = s.clp.enabled ∧
    ((fun s => (detectLine l g s).1) s).clp.silent = s.clp.silent ∧
    ((fun s => (detectLine l g s).1) s).clp.silence = s.clp.silence ∧
    ((fun s => (detectLine l g s).1) s).clp.telemetry = s.clp.telemetry ∧
    ((fun s => (detectLine l g s).1) s).clp.counters = s.clp.counters := by
  simp only [detectLine]
  (repeat' split) <;> simp

@[simp] theorem takeLineAverage_frame (cs : List Cell) (s : State) :
    ((fun s => (takeLineAverage cs s).1) s).now = s.now ∧ ((fun s => (takeLineAverage cs s).1) s).eStop = s.eStop ∧
    ((fun s => (takeLineAverage cs s).1) s).trc = s.trc ∧ ((fun s => (takeLineAverage cs s).1) s).plt = s.plt ∧
    ((fun s => (takeLineAverage cs s).1) s).chL = s.chL ∧ ((fun s => (takeLineAverage cs s).1) s).chR = s.chR ∧
    ((fun s => (takeLineAverage cs s).1) s).target = s.target ∧
    ((fun s => (takeLineAverage cs s).1) s).slopeRaw = s.slopeRaw ∧ ((fun s => (takeLineAverage cs s).1) s).mlc = s.mlc ∧
    ((fun s => (takeLineAverage cs s).1) s).spr = s.spr ∧ ((fun s => (takeLineAverage cs s).1) s).chd = s.chd ∧
    ((fun s => (takeLineAverage cs s).1) s).cst = s.cst ∧ ((fun s => (takeLineAverage cs s).1) s).load = s.load ∧
    ((fun s => (takeLineAverage cs s).1) s).tqs = s.tqs ∧ ((fun s => (takeLineAverage cs s).1) s).mpr = s.mpr ∧
    ((fun s => (takeLineAverage cs s).1) s).clp = s.clp ∧ ((fun s => (takeLineAverage cs s).1) s).pending = s.pending := by
  simp only [takeLineAverage]
  (repeat' split) <;> simp

@[simp] theorem completeLine_frame (l : Line) (r : List Line) (s : State) :
    (completeLine l r s).now = s.now ∧ (completeLine l r s).eStop = s.eStop ∧ (completeLine l r s).trc = s.trc ∧
    (completeLine l r s).plt = s.plt ∧ (completeLine l r s).chL = s.chL ∧ (completeLine l r s).chR = s.chR ∧
    (completeLine l r s).target = s.target ∧ (completeLine l r s).slopeRaw = s.slopeRaw ∧
    (completeLine l r s).cst = s.cst ∧ (completeLine l r s).load = s.load ∧ (completeLine l r s).tqs = s.tqs ∧
    (completeLine l r s).mpr = s.mpr ∧ (completeLine l r s).pending = s.pending ∧ (completeLine l r s).clp.rx = s.clp.rx ∧
    (completeLine l r s).clp.buffer = s.clp.buffer ∧ (completeLine l r s).clp.slot = s.clp.slot ∧
    (completeLine l r s).clp.tx = s.clp.tx ∧ (completeLine l r s).clp.enabled = s.clp.enabled ∧
    (completeLine l r s).clp.silent = s.clp.silent ∧ (completeLine l r s).clp.silence = s.clp.silence ∧
    (completeLine l r s).clp.telemetry = s.clp.telemetry ∧ (completeLine l r s).clp.counters = s.clp.counters := by
  simp [completeLine]

@[simp] theorem lineCompletion_frame (s : State) :
    (lineCompletion s).now = s.now ∧ (lineCompletion s).eStop = s.eStop ∧ (lineCompletion s).trc = s.trc ∧
    (lineCompletion s).plt = s.plt ∧ (lineCompletion s).chL = s.chL ∧ (lineCompletion s).chR = s.chR ∧
    (lineCompletion s).target = s.target ∧ (lineCompletion s).slopeRaw = s.slopeRaw ∧ (lineCompletion s).cst = s.cst ∧
    (lineCompletion s).load = s.load ∧ (lineCompletion s).tqs = s.tqs ∧ (lineCompletion s).mpr = s.mpr ∧
    (lineCompletion s).pending = s.pending ∧ (lineCompletion s).clp.rx = s.clp.rx ∧
    (lineCompletion s).clp.buffer = s.clp.buffer ∧ (lineCompletion s).clp.slot = s.clp.slot ∧
    (lineCompletion s).clp.tx = s.clp.tx ∧ (lineCompletion s).clp.enabled = s.clp.enabled ∧
    (lineCompletion s).clp.silent = s.clp.silent ∧ (lineCompletion s).clp.silence = s.clp.silence ∧
    (lineCompletion s).clp.telemetry = s.clp.telemetry ∧ (lineCompletion s).clp.counters = s.clp.counters := by
  simp only [lineCompletion]
  (repeat' split) <;> simp

@[simp] theorem switchOn_frame (s : State) :
    (switchOn s).now = s.now ∧ (switchOn s).eStop = s.eStop ∧ (switchOn s).trc = s.trc ∧ (switchOn s).plt = s.plt ∧
    (switchOn s).chL = s.chL ∧ (switchOn s).chR = s.chR ∧ (switchOn s).target = s.target ∧
    (switchOn s).slopeRaw = s.slopeRaw ∧ (switchOn s).mlc = s.mlc ∧ (switchOn s).chd = s.chd ∧ (switchOn s).cst = s.cst ∧
    (switchOn s).load = s.load ∧ (switchOn s).tqs = s.tqs ∧ (switchOn s).mpr = s.mpr ∧ (switchOn s).freeUsed = s.freeUsed ∧
    (switchOn s).pending = s.pending ∧ (switchOn s).clp.rx = s.clp.rx ∧ (switchOn s).clp.buffer = s.clp.buffer ∧
    (switchOn s).clp.slot = s.clp.slot ∧ (switchOn s).clp.tx = s.clp.tx ∧ (switchOn s).clp.enabled = s.clp.enabled ∧
    (switchOn s).clp.silent = s.clp.silent ∧ (switchOn s).clp.silence = s.clp.silence ∧
    (switchOn s).clp.telemetry = s.clp.telemetry ∧ (switchOn s).clp.counters = s.clp.counters := by
  simp [switchOn]

@[simp] theorem switchOff_frame (s : State) :
    (switchOff s).now = s.now ∧ (switchOff s).eStop = s.eStop ∧ (switchOff s).trc = s.trc ∧ (switchOff s).plt = s.plt ∧
    (switchOff s).chL = s.chL ∧ (switchOff s).chR = s.chR ∧ (switchOff s).target = s.target ∧
    (switchOff s).slopeRaw = s.slopeRaw ∧ (switchOff s).mlc = s.mlc ∧ (switchOff s).cst = s.cst ∧
    (switchOff s).load = s.load ∧ (switchOff s).tqs = s.tqs ∧ (switchOff s).mpr = s.mpr ∧
    (switchOff s).freeUsed = s.freeUsed ∧ (switchOff s).pending = s.pending ∧ (switchOff s).clp.rx = s.clp.rx ∧
    (switchOff s).clp.buffer = s.clp.buffer ∧ (switchOff s).clp.slot = s.clp.slot ∧ (switchOff s).clp.tx = s.clp.tx ∧
    (switchOff s).clp.enabled = s.clp.enabled ∧ (switchOff s).clp.silent = s.clp.silent ∧
    (switchOff s).clp.silence = s.clp.silence ∧ (switchOff s).clp.telemetry = s.clp.telemetry ∧
    (switchOff s).clp.counters = s.clp.counters := by
  simp [switchOff]

@[simp] theorem meterNothing_frame (s : State) :
    (meterNothing s).now = s.now ∧ (meterNothing s).eStop = s.eStop ∧ (meterNothing s).trc = s.trc ∧
    (meterNothing s).plt = s.plt ∧ (meterNothing s).chL = s.chL ∧ (meterNothing s).chR = s.chR ∧
    (meterNothing s).target = s.target ∧ (meterNothing s).slopeRaw = s.slopeRaw ∧ (meterNothing s).mlc = s.mlc ∧
    (meterNothing s).spr = s.spr ∧ (meterNothing s).chd = s.chd ∧ (meterNothing s).cst = s.cst ∧
    (meterNothing s).tqs = s.tqs ∧ (meterNothing s).mpr = s.mpr ∧ (meterNothing s).clp = s.clp ∧
    (meterNothing s).freeUsed = s.freeUsed ∧ (meterNothing s).pending = s.pending := by
  simp [meterNothing]

@[simp] theorem newParcel_frame (p : Nat) (s : State) :
    (newParcel p s).now = s.now ∧ (newParcel p s).eStop = s.eStop ∧ (newParcel p s).trc = s.trc ∧
    (newParcel p s).plt = s.plt ∧ (newParcel p s).chL = s.chL ∧ (newParcel p s).chR = s.chR ∧
    (newParcel p s).target = s.target ∧ (newParcel p s).slopeRaw = s.slopeRaw ∧ (newParcel p s).mlc = s.mlc ∧
    (newParcel p s).spr = s.spr ∧ (newParcel p s).chd = s.chd ∧ (newParcel p s).mpr = s.mpr ∧
    (newParcel p s).freeUsed = s.freeUsed ∧ (newParcel p s).pending = s.pending ∧ (newParcel p s).clp.rx = s.clp.rx ∧
    (newParcel p s).clp.buffer = s.clp.buffer ∧ (newParcel p s).clp.slot = s.clp.slot ∧ (newParcel p s).clp.tx = s.clp.tx ∧
    (newParcel p s).clp.enabled = s.clp.enabled ∧ (newParcel p s).clp.silent = s.clp.silent ∧
    (newParcel p s).clp.silence = s.clp.silence ∧ (newParcel p s).clp.telemetry = s.clp.telemetry ∧
    (newParcel p s).clp.counters = s.clp.counters := by
  simp [newParcel]

@[simp] theorem routeVolume_frame (p : Nat) (s : State) :
    (routeVolume p s).now = s.now ∧ (routeVolume p s).eStop = s.eStop ∧ (routeVolume p s).trc = s.trc ∧
    (routeVolume p s).plt = s.plt ∧ (routeVolume p s).chL = s.chL ∧ (routeVolume p s).chR = s.chR ∧
    (routeVolume p s).target = s.target ∧ (routeVolume p s).slopeRaw = s.slopeRaw ∧ (routeVolume p s).mlc = s.mlc ∧
    (routeVolume p s).spr = s.spr ∧ (routeVolume p s).chd = s.chd ∧ (routeVolume p s).mpr = s.mpr ∧
    (routeVolume p s).freeUsed = s.freeUsed ∧ (routeVolume p s).pending = s.pending ∧ (routeVolume p s).clp.rx = s.clp.rx ∧
    (routeVolume p s).clp.buffer = s.clp.buffer ∧ (routeVolume p s).clp.slot = s.clp.slot ∧
    (routeVolume p s).clp.tx = s.clp.tx ∧ (routeVolume p s).clp.enabled = s.clp.enabled ∧
    (routeVolume p s).clp.silent = s.clp.silent ∧ (routeVolume p s).clp.silence = s.clp.silence ∧
    (routeVolume p s).clp.telemetry = s.clp.telemetry ∧ (routeVolume p s).clp.counters = s.clp.counters := by
  simp only [routeVolume]
  (repeat' split) <;> simp

@[simp] theorem volumeStep_frame (s : State) :
    (volumeStep s).now = s.now ∧ (volumeStep s).eStop = s.eStop ∧ (volumeStep s).plt = s.plt ∧ (volumeStep s).chL = s.chL ∧
    (volumeStep s).chR = s.chR ∧ (volumeStep s).target = s.target ∧ (volumeStep s).slopeRaw = s.slopeRaw ∧
    (volumeStep s).mlc = s.mlc ∧ (volumeStep s).spr = s.spr ∧ (volumeStep s).chd = s.chd ∧ (volumeStep s).mpr = s.mpr ∧
    (volumeStep s).freeUsed = s.freeUsed ∧ (volumeStep s).pending = s.pending ∧ (volumeStep s).clp.rx = s.clp.rx ∧
    (volumeStep s).clp.buffer = s.clp.buffer ∧ (volumeStep s).clp.slot = s.clp.slot ∧ (volumeStep s).clp.tx = s.clp.tx ∧
    (volumeStep s).clp.enabled = s.clp.enabled ∧ (volumeStep s).clp.silent = s.clp.silent ∧
    (volumeStep s).clp.silence = s.clp.silence ∧ (volumeStep s).clp.telemetry = s.clp.telemetry ∧
    (volumeStep s).clp.counters = s.clp.counters := by
  simp only [volumeStep]
  (repeat' split) <;> simp

@[simp] theorem deliver_frame (n : Nat) (s : State) :
    (deliver n s).now = s.now ∧ (deliver n s).eStop = s.eStop ∧ (deliver n s).trc = s.trc ∧ (deliver n s).plt = s.plt ∧
    (deliver n s).chL = s.chL ∧ (deliver n s).chR = s.chR ∧ (deliver n s).target = s.target ∧
    (deliver n s).slopeRaw = s.slopeRaw ∧ (deliver n s).mlc = s.mlc ∧ (deliver n s).spr = s.spr ∧
    (deliver n s).chd = s.chd ∧ (deliver n s).cst = s.cst ∧ (deliver n s).mpr = s.mpr ∧ (deliver n s).clp = s.clp ∧
    (deliver n s).freeUsed = s.freeUsed ∧ (deliver n s).pending = s.pending := by
  simp [deliver]

@[simp] theorem headFull_frame (s : State) :
    (headFull s).now = s.now ∧ (headFull s).eStop = s.eStop ∧ (headFull s).trc = s.trc ∧ (headFull s).plt = s.plt ∧
    (headFull s).chL = s.chL ∧ (headFull s).chR = s.chR ∧ (headFull s).target = s.target ∧
    (headFull s).slopeRaw = s.slopeRaw ∧ (headFull s).mlc = s.mlc ∧ (headFull s).spr = s.spr ∧ (headFull s).chd = s.chd ∧
    (headFull s).cst = s.cst ∧ (headFull s).load = s.load ∧ (headFull s).mpr = s.mpr ∧ (headFull s).freeUsed = s.freeUsed ∧
    (headFull s).pending = s.pending ∧ (headFull s).clp.rx = s.clp.rx ∧ (headFull s).clp.buffer = s.clp.buffer ∧
    (headFull s).clp.slot = s.clp.slot ∧ (headFull s).clp.tx = s.clp.tx ∧ (headFull s).clp.enabled = s.clp.enabled ∧
    (headFull s).clp.silent = s.clp.silent ∧ (headFull s).clp.silence = s.clp.silence ∧
    (headFull s).clp.telemetry = s.clp.telemetry ∧ (headFull s).clp.counters = s.clp.counters := by
  simp only [headFull]
  (repeat' split) <;> simp

@[simp] theorem spillParcel_frame (q : Parcel) (s : State) :
    (spillParcel q s).now = s.now ∧ (spillParcel q s).eStop = s.eStop ∧ (spillParcel q s).trc = s.trc ∧
    (spillParcel q s).plt = s.plt ∧ (spillParcel q s).chL = s.chL ∧ (spillParcel q s).chR = s.chR ∧
    (spillParcel q s).target = s.target ∧ (spillParcel q s).slopeRaw = s.slopeRaw ∧ (spillParcel q s).mlc = s.mlc ∧
    (spillParcel q s).spr = s.spr ∧ (spillParcel q s).chd = s.chd ∧ (spillParcel q s).tqs = s.tqs ∧
    (spillParcel q s).mpr = s.mpr ∧ (spillParcel q s).freeUsed = s.freeUsed ∧ (spillParcel q s).pending = s.pending ∧
    (spillParcel q s).clp.rx = s.clp.rx ∧ (spillParcel q s).clp.buffer = s.clp.buffer ∧
    (spillParcel q s).clp.slot = s.clp.slot ∧ (spillParcel q s).clp.tx = s.clp.tx ∧
    (spillParcel q s).clp.enabled = s.clp.enabled ∧ (spillParcel q s).clp.silent = s.clp.silent ∧
    (spillParcel q s).clp.silence = s.clp.silence ∧ (spillParcel q s).clp.telemetry = s.clp.telemetry ∧
    (spillParcel q s).clp.counters = s.clp.counters := by
  simp [spillParcel]

@[simp] theorem dischargePass_frame (lb : Nat) (ps : List Parcel) (s : State) :
    ((fun s => (dischargePass lb ps s).2) s).now = s.now ∧ ((fun s => (dischargePass lb ps s).2) s).eStop = s.eStop ∧
    ((fun s => (dischargePass lb ps s).2) s).trc = s.trc ∧ ((fun s => (dischargePass lb ps s).2) s).plt = s.plt ∧
    ((fun s => (dischargePass lb ps s).2) s).chL = s.chL ∧ ((fun s => (dischargePass lb ps s).2) s).chR = s.chR ∧
    ((fun s => (dischargePass lb ps s).2) s).target = s.target ∧
    ((fun s => (dischargePass lb ps s).2) s).slopeRaw = s.slopeRaw ∧ ((fun s => (dischargePass lb ps s).2) s).mlc = s.mlc ∧
    ((fun s => (dischargePass lb ps s).2) s).spr = s.spr ∧ ((fun s => (dischargePass lb ps s).2) s).chd = s.chd ∧
    ((fun s => (dischargePass lb ps s).2) s).mpr = s.mpr ∧ ((fun s => (dischargePass lb ps s).2) s).freeUsed = s.freeUsed ∧
    ((fun s => (dischargePass lb ps s).2) s).pending = s.pending ∧
    ((fun s => (dischargePass lb ps s).2) s).clp.rx = s.clp.rx ∧
    ((fun s => (dischargePass lb ps s).2) s).clp.buffer = s.clp.buffer ∧
    ((fun s => (dischargePass lb ps s).2) s).clp.slot = s.clp.slot ∧
    ((fun s => (dischargePass lb ps s).2) s).clp.tx = s.clp.tx ∧
    ((fun s => (dischargePass lb ps s).2) s).clp.enabled = s.clp.enabled ∧
    ((fun s => (dischargePass lb ps s).2) s).clp.silent = s.clp.silent ∧
    ((fun s => (dischargePass lb ps s).2) s).clp.silence = s.clp.silence ∧
    ((fun s => (dischargePass lb ps s).2) s).clp.telemetry = s.clp.telemetry ∧
    ((fun s => (dischargePass lb ps s).2) s).clp.counters = s.clp.counters := by
  induction ps generalizing s with
  | nil => simp [dischargePass]
  | cons q ps ih =>
    simp only [dischargePass]
    (repeat' split) <;> simp [ih]

@[simp] theorem runBeltStep_frame (lb : Nat) (s : State) :
    (runBeltStep lb s).now = s.now ∧ (runBeltStep lb s).eStop = s.eStop ∧ (runBeltStep lb s).trc = s.trc ∧
    (runBeltStep lb s).plt = s.plt ∧ (runBeltStep lb s).chL = s.chL ∧ (runBeltStep lb s).chR = s.chR ∧
    (runBeltStep lb s).target = s.target ∧ (runBeltStep lb s).slopeRaw = s.slopeRaw ∧ (runBeltStep lb s).mlc = s.mlc ∧
    (runBeltStep lb s).spr = s.spr ∧ (runBeltStep lb s).chd = s.chd ∧ (runBeltStep lb s).mpr = s.mpr ∧
    (runBeltStep lb s).freeUsed = s.freeUsed ∧ (runBeltStep lb s).pending = s.pending ∧
    (runBeltStep lb s).clp.rx = s.clp.rx ∧ (runBeltStep lb s).clp.buffer = s.clp.buffer ∧
    (runBeltStep lb s).clp.slot = s.clp.slot ∧ (runBeltStep lb s).clp.tx = s.clp.tx ∧
    (runBeltStep lb s).clp.enabled = s.clp.enabled ∧ (runBeltStep lb s).clp.silent = s.clp.silent ∧
    (runBeltStep lb s).clp.silence = s.clp.silence ∧ (runBeltStep lb s).clp.telemetry = s.clp.telemetry ∧
    (runBeltStep lb s).clp.counters = s.clp.counters := by
  simp [runBeltStep]

@[simp] theorem beltStep_frame (s : State) :
    (beltStep s).now = s.now ∧ (beltStep s).eStop = s.eStop ∧ (beltStep s).plt = s.plt ∧ (beltStep s).chL = s.chL ∧
    (beltStep s).chR = s.chR ∧ (beltStep s).target = s.target ∧ (beltStep s).slopeRaw = s.slopeRaw ∧
    (beltStep s).mlc = s.mlc ∧ (beltStep s).spr = s.spr ∧ (beltStep s).chd = s.chd ∧ (beltStep s).mpr = s.mpr ∧
    (beltStep s).freeUsed = s.freeUsed ∧ (beltStep s).pending = s.pending ∧ (beltStep s).clp.rx = s.clp.rx ∧
    (beltStep s).clp.buffer = s.clp.buffer ∧ (beltStep s).clp.slot = s.clp.slot ∧ (beltStep s).clp.tx = s.clp.tx ∧
    (beltStep s).clp.enabled = s.clp.enabled ∧ (beltStep s).clp.silent = s.clp.silent ∧
    (beltStep s).clp.silence = s.clp.silence ∧ (beltStep s).clp.telemetry = s.clp.telemetry ∧
    (beltStep s).clp.counters = s.clp.counters := by
  simp only [beltStep]
  (repeat' split) <;> simp

@[simp] theorem resetCounters_frame (s : State) :
    (resetCounters s).now = s.now ∧ (resetCounters s).eStop = s.eStop ∧ (resetCounters s).trc = s.trc ∧
    (resetCounters s).plt = s.plt ∧ (resetCounters s).chL = s.chL ∧ (resetCounters s).chR = s.chR ∧
    (resetCounters s).target = s.target ∧ (resetCounters s).slopeRaw = s.slopeRaw ∧ (resetCounters s).mlc = s.mlc ∧
    (resetCounters s).spr = s.spr ∧ (resetCounters s).chd = s.chd ∧ (resetCounters s).cst = s.cst ∧
    (resetCounters s).tqs = s.tqs ∧ (resetCounters s).mpr = s.mpr ∧ (resetCounters s).clp = s.clp ∧
    (resetCounters s).freeUsed = s.freeUsed ∧ (resetCounters s).pending = s.pending := by
  simp [resetCounters]

@[simp] theorem headInPosition_frame (s : State) :
    (headInPosition s).now = s.now ∧ (headInPosition s).eStop = s.eStop ∧ (headInPosition s).trc = s.trc ∧
    (headInPosition s).plt = s.plt ∧ (headInPosition s).chL = s.chL ∧ (headInPosition s).chR = s.chR ∧
    (headInPosition s).target = s.target ∧ (headInPosition s).slopeRaw = s.slopeRaw ∧ (headInPosition s).mlc = s.mlc ∧
    (headInPosition s).spr = s.spr ∧ (headInPosition s).chd = s.chd ∧ (headInPosition s).cst = s.cst ∧
    (headInPosition s).load = s.load ∧ (headInPosition s).mpr = s.mpr ∧ (headInPosition s).freeUsed = s.freeUsed ∧
    (headInPosition s).pending = s.pending ∧ (headInPosition s).clp.rx = s.clp.rx ∧
    (headInPosition s).clp.buffer = s.clp.buffer ∧ (headInPosition s).clp.slot = s.clp.slot ∧
    (headInPosition s).clp.tx = s.clp.tx ∧ (headInPosition s).clp.enabled = s.clp.enabled ∧
    (headInPosition s).clp.silent = s.clp.silent ∧ (headInPosition s).clp.silence = s.clp.silence ∧
    (headInPosition s).clp.telemetry = s.clp.telemetry ∧ (headInPosition s).clp.counters = s.clp.counters := by
  simp only [headInPosition]
  (repeat' split) <;> simp

@[simp] theorem removeHead_frame (s : State) :
    (removeHead s).now = s.now ∧ (removeHead s).eStop = s.eStop ∧ (removeHead s).trc = s.trc ∧ (removeHead s).plt = s.plt ∧
    (removeHead s).chL = s.chL ∧ (removeHead s).chR = s.chR ∧ (removeHead s).target = s.target ∧
    (removeHead s).slopeRaw = s.slopeRaw ∧ (removeHead s).mlc = s.mlc ∧ (removeHead s).spr = s.spr ∧
    (removeHead s).chd = s.chd ∧ (removeHead s).cst = s.cst ∧ (removeHead s).load = s.load ∧ (removeHead s).mpr = s.mpr ∧
    (removeHead s).freeUsed = s.freeUsed ∧ (removeHead s).pending = s.pending ∧ (removeHead s).clp.rx = s.clp.rx ∧
    (removeHead s).clp.buffer = s.clp.buffer ∧ (removeHead s).clp.slot = s.clp.slot ∧ (removeHead s).clp.tx = s.clp.tx ∧
    (removeHead s).clp.enabled = s.clp.enabled ∧ (removeHead s).clp.silent = s.clp.silent ∧
    (removeHead s).clp.silence = s.clp.silence ∧ (removeHead s).clp.telemetry = s.clp.telemetry ∧
    (removeHead s).clp.counters = s.clp.counters := by
  simp only [removeHead]
  (repeat' split) <;> simp

@[simp] theorem startConveyor_frame (s : State) :
    (startConveyor s).now = s.now ∧ (startConveyor s).eStop = s.eStop ∧ (startConveyor s).trc = s.trc ∧
    (startConveyor s).plt = s.plt ∧ (startConveyor s).chL = s.chL ∧ (startConveyor s).chR = s.chR ∧
    (startConveyor s).target = s.target ∧ (startConveyor s).slopeRaw = s.slopeRaw ∧ (startConveyor s).mlc = s.mlc ∧
    (startConveyor s).spr = s.spr ∧ (startConveyor s).chd = s.chd ∧ (startConveyor s).cst = s.cst ∧
    (startConveyor s).load = s.load ∧ (startConveyor s).mpr = s.mpr ∧ (startConveyor s).freeUsed = s.freeUsed ∧
    (startConveyor s).pending = s.pending ∧ (startConveyor s).clp.rx = s.clp.rx ∧
    (startConveyor s).clp.buffer = s.clp.buffer ∧ (startConveyor s).clp.slot = s.clp.slot ∧
    (startConveyor s).clp.tx = s.clp.tx ∧ (startConveyor s).clp.enabled = s.clp.enabled ∧
    (startConveyor s).clp.silent = s.clp.silent ∧ (startConveyor s).clp.silence = s.clp.silence ∧
    (startConveyor s).clp.telemetry = s.clp.telemetry ∧ (startConveyor s).clp.counters = s.clp.counters := by
  simp only [startConveyor]
  (repeat' split) <;> simp

@[simp] theorem ownerAct_frame (n : Nat) (s : State) :
    (ownerAct n s).now = s.now ∧ (ownerAct n s).eStop = s.eStop ∧ (ownerAct n s).trc = s.trc ∧
    (ownerAct n s).target = s.target ∧ (ownerAct n s).slopeRaw = s.slopeRaw ∧ (ownerAct n s).spr = s.spr ∧
    (ownerAct n s).cst = s.cst ∧ (ownerAct n s).load = s.load ∧ (ownerAct n s).mpr = s.mpr ∧
    (ownerAct n s).freeUsed = s.freeUsed ∧ (ownerAct n s).pending = s.pending ∧ (ownerAct n s).clp.rx = s.clp.rx ∧
    (ownerAct n s).clp.buffer = s.clp.buffer ∧ (ownerAct n s).clp.slot = s.clp.slot ∧ (ownerAct n s).clp.tx = s.clp.tx ∧
    (ownerAct n s).clp.enabled = s.clp.enabled ∧ (ownerAct n s).clp.silent = s.clp.silent ∧
    (ownerAct n s).clp.counters = s.clp.counters := by
  simp only [ownerAct, pairComplete, clampDepths, clampSlopes, clampTrims, writeRefMode, writeLt]
  (repeat' split) <;> simp

@[simp] theorem writeItem_frame (r : ParamRow) (v : Int) (s : State) :
    (writeItem r v s).now = s.now ∧ (writeItem r v s).eStop = s.eStop ∧ (writeItem r v s).trc = s.trc ∧
    (writeItem r v s).target = s.target ∧ (writeItem r v s).slopeRaw = s.slopeRaw ∧ (writeItem r v s).spr = s.spr ∧
    (writeItem r v s).cst = s.cst ∧ (writeItem r v s).load = s.load ∧ (writeItem r v s).freeUsed = s.freeUsed ∧
    (writeItem r v s).pending = s.pending ∧ (writeItem r v s).clp.rx = s.clp.rx ∧
    (writeItem r v s).clp.buffer = s.clp.buffer ∧ (writeItem r v s).clp.slot = s.clp.slot ∧
    (writeItem r v s).clp.tx = s.clp.tx ∧ (writeItem r v s).clp.enabled = s.clp.enabled ∧
    (writeItem r v s).clp.silent = s.clp.silent ∧ (writeItem r v s).clp.counters = s.clp.counters := by
  simp [writeItem]

@[simp] theorem warmRestart_frame (s : State) :
    (warmRestart s).now = s.now ∧ (warmRestart s).eStop = s.eStop ∧ (warmRestart s).trc = s.trc ∧
    (warmRestart s).target = s.target ∧ (warmRestart s).slopeRaw = s.slopeRaw ∧ (warmRestart s).mpr = s.mpr ∧
    (warmRestart s).freeUsed = s.freeUsed ∧ (warmRestart s).pending = s.pending ∧ (warmRestart s).clp.rx = s.clp.rx ∧
    (warmRestart s).clp.buffer = s.clp.buffer ∧ (warmRestart s).clp.slot = s.clp.slot ∧ (warmRestart s).clp.tx = s.clp.tx ∧
    (warmRestart s).clp.enabled = s.clp.enabled ∧ (warmRestart s).clp.silent = s.clp.silent ∧
    (warmRestart s).clp.silence = s.clp.silence ∧ (warmRestart s).clp.telemetry = s.clp.telemetry ∧
    (warmRestart s).clp.counters = s.clp.counters := by
  simp [warmRestart, restartTqs, restartLoad, restartCst, restartScanner, restartMlc, restartChannels, restartPlt]

@[simp] theorem eStopConveyor_frame (s : State) :
    (eStopConveyor s).now = s.now ∧ (eStopConveyor s).eStop = s.eStop ∧ (eStopConveyor s).trc = s.trc ∧
    (eStopConveyor s).plt = s.plt ∧ (eStopConveyor s).chL = s.chL ∧ (eStopConveyor s).chR = s.chR ∧
    (eStopConveyor s).target = s.target ∧ (eStopConveyor s).slopeRaw = s.slopeRaw ∧ (eStopConveyor s).mlc = s.mlc ∧
    (eStopConveyor s).spr = s.spr ∧ (eStopConveyor s).chd = s.chd ∧ (eStopConveyor s).cst = s.cst ∧
    (eStopConveyor s).load = s.load ∧ (eStopConveyor s).mpr = s.mpr ∧ (eStopConveyor s).freeUsed = s.freeUsed ∧
    (eStopConveyor s).pending = s.pending ∧ (eStopConveyor s).clp.rx = s.clp.rx ∧
    (eStopConveyor s).clp.buffer = s.clp.buffer ∧ (eStopConveyor s).clp.slot = s.clp.slot ∧
    (eStopConveyor s).clp.tx = s.clp.tx ∧ (eStopConveyor s).clp.enabled = s.clp.enabled ∧
    (eStopConveyor s).clp.silent = s.clp.silent ∧ (eStopConveyor s).clp.silence = s.clp.silence ∧
    (eStopConveyor s).clp.telemetry = s.clp.telemetry ∧ (eStopConveyor s).clp.counters = s.clp.counters := by
  simp only [eStopConveyor]
  (repeat' split) <;> simp

@[simp] theorem assertEStop_frame (s : State) :
    (assertEStop s).now = s.now ∧ (assertEStop s).trc = s.trc ∧ (assertEStop s).plt = s.plt ∧
    (assertEStop s).target = s.target ∧ (assertEStop s).slopeRaw = s.slopeRaw ∧ (assertEStop s).spr = s.spr ∧
    (assertEStop s).chd = s.chd ∧ (assertEStop s).cst = s.cst ∧ (assertEStop s).load = s.load ∧
    (assertEStop s).mpr = s.mpr ∧ (assertEStop s).freeUsed = s.freeUsed ∧ (assertEStop s).pending = s.pending ∧
    (assertEStop s).clp.rx = s.clp.rx ∧ (assertEStop s).clp.buffer = s.clp.buffer ∧ (assertEStop s).clp.slot = s.clp.slot ∧
    (assertEStop s).clp.tx = s.clp.tx ∧ (assertEStop s).clp.enabled = s.clp.enabled ∧
    (assertEStop s).clp.silent = s.clp.silent ∧ (assertEStop s).clp.silence = s.clp.silence ∧
    (assertEStop s).clp.telemetry = s.clp.telemetry ∧ (assertEStop s).clp.counters = s.clp.counters := by
  simp [assertEStop, setEStop]

@[simp] theorem releaseEStop_frame (s : State) :
    (releaseEStop s).now = s.now ∧ (releaseEStop s).trc = s.trc ∧ (releaseEStop s).plt = s.plt ∧
    (releaseEStop s).chL = s.chL ∧ (releaseEStop s).chR = s.chR ∧ (releaseEStop s).target = s.target ∧
    (releaseEStop s).slopeRaw = s.slopeRaw ∧ (releaseEStop s).spr = s.spr ∧ (releaseEStop s).chd = s.chd ∧
    (releaseEStop s).cst = s.cst ∧ (releaseEStop s).load = s.load ∧ (releaseEStop s).mpr = s.mpr ∧
    (releaseEStop s).freeUsed = s.freeUsed ∧ (releaseEStop s).pending = s.pending ∧ (releaseEStop s).clp.rx = s.clp.rx ∧
    (releaseEStop s).clp.buffer = s.clp.buffer ∧ (releaseEStop s).clp.slot = s.clp.slot ∧
    (releaseEStop s).clp.tx = s.clp.tx ∧ (releaseEStop s).clp.enabled = s.clp.enabled ∧
    (releaseEStop s).clp.silent = s.clp.silent ∧ (releaseEStop s).clp.silence = s.clp.silence ∧
    (releaseEStop s).clp.telemetry = s.clp.telemetry ∧ (releaseEStop s).clp.counters = s.clp.counters := by
  simp [releaseEStop, reformAfterEStop, setEStop]

@[simp] theorem linkSilence_frame (s : State) :
    (linkSilence s).now = s.now ∧ (linkSilence s).eStop = s.eStop ∧ (linkSilence s).trc = s.trc ∧
    (linkSilence s).plt = s.plt ∧ (linkSilence s).target = s.target ∧ (linkSilence s).slopeRaw = s.slopeRaw ∧
    (linkSilence s).spr = s.spr ∧ (linkSilence s).chd = s.chd ∧ (linkSilence s).cst = s.cst ∧
    (linkSilence s).load = s.load ∧ (linkSilence s).mpr = s.mpr ∧ (linkSilence s).freeUsed = s.freeUsed ∧
    (linkSilence s).pending = s.pending ∧ (linkSilence s).clp.rx = s.clp.rx ∧ (linkSilence s).clp.buffer = s.clp.buffer ∧
    (linkSilence s).clp.slot = s.clp.slot ∧ (linkSilence s).clp.tx = s.clp.tx ∧
    (linkSilence s).clp.enabled = s.clp.enabled ∧ (linkSilence s).clp.telemetry = s.clp.telemetry ∧
    (linkSilence s).clp.counters = s.clp.counters := by
  simp only [linkSilence]
  (repeat' split) <;> simp

@[simp] theorem telemetryPeriod_frame (s : State) :
    (telemetryPeriod s).now = s.now ∧ (telemetryPeriod s).eStop = s.eStop ∧ (telemetryPeriod s).trc = s.trc ∧
    (telemetryPeriod s).plt = s.plt ∧ (telemetryPeriod s).chL = s.chL ∧ (telemetryPeriod s).chR = s.chR ∧
    (telemetryPeriod s).target = s.target ∧ (telemetryPeriod s).slopeRaw = s.slopeRaw ∧ (telemetryPeriod s).mlc = s.mlc ∧
    (telemetryPeriod s).spr = s.spr ∧ (telemetryPeriod s).chd = s.chd ∧ (telemetryPeriod s).cst = s.cst ∧
    (telemetryPeriod s).load = s.load ∧ (telemetryPeriod s).tqs = s.tqs ∧ (telemetryPeriod s).mpr = s.mpr ∧
    (telemetryPeriod s).freeUsed = s.freeUsed ∧ (telemetryPeriod s).pending = s.pending ∧
    (telemetryPeriod s).clp.rx = s.clp.rx ∧ (telemetryPeriod s).clp.buffer = s.clp.buffer ∧
    (telemetryPeriod s).clp.slot = s.clp.slot ∧ (telemetryPeriod s).clp.tx = s.clp.tx ∧
    (telemetryPeriod s).clp.enabled = s.clp.enabled ∧ (telemetryPeriod s).clp.silent = s.clp.silent ∧
    (telemetryPeriod s).clp.silence = s.clp.silence ∧ (telemetryPeriod s).clp.counters = s.clp.counters := by
  simp only [telemetryPeriod]
  (repeat' split) <;> simp

@[simp] theorem endSilence_frame (s : State) :
    (endSilence s).now = s.now ∧ (endSilence s).eStop = s.eStop ∧ (endSilence s).trc = s.trc ∧ (endSilence s).plt = s.plt ∧
    (endSilence s).chL = s.chL ∧ (endSilence s).chR = s.chR ∧ (endSilence s).target = s.target ∧
    (endSilence s).slopeRaw = s.slopeRaw ∧ (endSilence s).mlc = s.mlc ∧ (endSilence s).spr = s.spr ∧
    (endSilence s).chd = s.chd ∧ (endSilence s).cst = s.cst ∧ (endSilence s).load = s.load ∧ (endSilence s).mpr = s.mpr ∧
    (endSilence s).freeUsed = s.freeUsed ∧ (endSilence s).pending = s.pending ∧ (endSilence s).clp.rx = s.clp.rx ∧
    (endSilence s).clp.buffer = s.clp.buffer ∧ (endSilence s).clp.slot = s.clp.slot ∧ (endSilence s).clp.tx = s.clp.tx ∧
    (endSilence s).clp.enabled = s.clp.enabled ∧ (endSilence s).clp.telemetry = s.clp.telemetry ∧
    (endSilence s).clp.counters = s.clp.counters := by
  simp only [endSilence]
  (repeat' split) <;> simp

@[simp] theorem setReporting_frame (k : BitVec 9) (s : State) :
    (setReporting k s).now = s.now ∧ (setReporting k s).eStop = s.eStop ∧ (setReporting k s).trc = s.trc ∧
    (setReporting k s).plt = s.plt ∧ (setReporting k s).chL = s.chL ∧ (setReporting k s).chR = s.chR ∧
    (setReporting k s).target = s.target ∧ (setReporting k s).slopeRaw = s.slopeRaw ∧ (setReporting k s).mlc = s.mlc ∧
    (setReporting k s).spr = s.spr ∧ (setReporting k s).chd = s.chd ∧ (setReporting k s).cst = s.cst ∧
    (setReporting k s).load = s.load ∧ (setReporting k s).tqs = s.tqs ∧ (setReporting k s).mpr = s.mpr ∧
    (setReporting k s).freeUsed = s.freeUsed ∧ (setReporting k s).pending = s.pending ∧
    (setReporting k s).clp.rx = s.clp.rx ∧ (setReporting k s).clp.buffer = s.clp.buffer ∧
    (setReporting k s).clp.slot = s.clp.slot ∧ (setReporting k s).clp.tx = s.clp.tx ∧
    (setReporting k s).clp.silent = s.clp.silent ∧ (setReporting k s).clp.silence = s.clp.silence ∧
    (setReporting k s).clp.telemetry = s.clp.telemetry ∧ (setReporting k s).clp.counters = s.clp.counters := by
  simp [setReporting]

end Sys2Proof.Machine
end

