-- ==== Sys2Proof/Laws/Requests.lean ====
section
/-! SUPPORT. What each owner's answer to a request leaves alone. -/

namespace Sys2Proof.Machine

@[simp] theorem serveGetPlan_state (f n : Nat) (s : State) : (serveGetPlan f n s).1 = s := by
  unfold serveGetPlan
  split <;> rfl

@[simp] theorem serveGetMarkers_state (f n : Nat) (s : State) : (serveGetMarkers f n s).1 = s := by
  unfold serveGetMarkers
  split <;> rfl

@[simp] theorem serveGetProfile_state (s : State) : (serveGetProfile s).1 = s := by
  rfl

@[simp] theorem serveGetFault_state (s : State) : (serveGetFault s).1 = s := by
  rfl

@[simp] theorem serveGetLoading_state (f n : Nat) (s : State) : (serveGetLoading f n s).1 = s := by
  unfold serveGetLoading
  split <;> rfl

@[simp] theorem serveGetParam_state (i : Nat) (s : State) : (serveGetParam i s).1 = s := by
  unfold serveGetParam
  split <;> rfl

@[simp] theorem serveIdentify_state (s : State) : (serveIdentify s).1 = s := by
  rfl

@[simp] theorem serveGetStatus_state (p : Nat) (s : State) : (serveGetStatus p s).1 = s := by
  unfold serveGetStatus
  split <;> rfl

@[simp] theorem serveSetDatum_frame (c : Int) (s : State) :
    (serveSetDatum c s).1.now = s.now ∧ (serveSetDatum c s).1.eStop = s.eStop ∧ (serveSetDatum c s).1.chL = s.chL ∧
    (serveSetDatum c s).1.chR = s.chR ∧ (serveSetDatum c s).1.target = s.target ∧
    (serveSetDatum c s).1.slopeRaw = s.slopeRaw ∧ (serveSetDatum c s).1.spr = s.spr ∧ (serveSetDatum c s).1.chd = s.chd ∧
    (serveSetDatum c s).1.cst = s.cst ∧ (serveSetDatum c s).1.load = s.load ∧ (serveSetDatum c s).1.mpr = s.mpr ∧
    (serveSetDatum c s).1.freeUsed = s.freeUsed ∧ (serveSetDatum c s).1.pending = s.pending ∧
    (serveSetDatum c s).1.clp.rx = s.clp.rx ∧ (serveSetDatum c s).1.clp.buffer = s.clp.buffer ∧
    (serveSetDatum c s).1.clp.slot = s.clp.slot ∧ (serveSetDatum c s).1.clp.tx = s.clp.tx ∧
    (serveSetDatum c s).1.clp.enabled = s.clp.enabled ∧ (serveSetDatum c s).1.clp.silent = s.clp.silent ∧
    (serveSetDatum c s).1.clp.silence = s.clp.silence ∧ (serveSetDatum c s).1.clp.telemetry = s.clp.telemetry ∧
    (serveSetDatum c s).1.clp.counters = s.clp.counters := by
  simp only [serveSetDatum]
  (repeat' split) <;> simp [accept, refuse]

@[simp] theorem serveStageSegments_frame (g : List Segment) (s : State) :
    (serveStageSegments g s).1.now = s.now ∧ (serveStageSegments g s).1.eStop = s.eStop ∧
    (serveStageSegments g s).1.trc = s.trc ∧ (serveStageSegments g s).1.chL = s.chL ∧
    (serveStageSegments g s).1.chR = s.chR ∧ (serveStageSegments g s).1.target = s.target ∧
    (serveStageSegments g s).1.slopeRaw = s.slopeRaw ∧ (serveStageSegments g s).1.mlc = s.mlc ∧
    (serveStageSegments g s).1.spr = s.spr ∧ (serveStageSegments g s).1.chd = s.chd ∧
    (serveStageSegments g s).1.cst = s.cst ∧ (serveStageSegments g s).1.load = s.load ∧
    (serveStageSegments g s).1.tqs = s.tqs ∧ (serveStageSegments g s).1.mpr = s.mpr ∧
    (serveStageSegments g s).1.clp = s.clp ∧ (serveStageSegments g s).1.freeUsed = s.freeUsed ∧
    (serveStageSegments g s).1.pending = s.pending := by
  simp only [serveStageSegments]
  (repeat' split) <;> simp [accept, refuse]

@[simp] theorem serveStageClear_frame (s : State) :
    (serveStageClear s).1.now = s.now ∧ (serveStageClear s).1.eStop = s.eStop ∧ (serveStageClear s).1.trc = s.trc ∧
    (serveStageClear s).1.chL = s.chL ∧ (serveStageClear s).1.chR = s.chR ∧ (serveStageClear s).1.target = s.target ∧
    (serveStageClear s).1.slopeRaw = s.slopeRaw ∧ (serveStageClear s).1.mlc = s.mlc ∧ (serveStageClear s).1.spr = s.spr ∧
    (serveStageClear s).1.chd = s.chd ∧ (serveStageClear s).1.cst = s.cst ∧ (serveStageClear s).1.load = s.load ∧
    (serveStageClear s).1.tqs = s.tqs ∧ (serveStageClear s).1.mpr = s.mpr ∧ (serveStageClear s).1.clp = s.clp ∧
    (serveStageClear s).1.freeUsed = s.freeUsed ∧ (serveStageClear s).1.pending = s.pending := by
  simp only [serveStageClear]
  (repeat' split) <;> simp [accept, refuse]

@[simp] theorem serveSplice_frame (a b : Int) (s : State) :
    (serveSplice a b s).1.now = s.now ∧ (serveSplice a b s).1.eStop = s.eStop ∧ (serveSplice a b s).1.trc = s.trc ∧
    (serveSplice a b s).1.chL = s.chL ∧ (serveSplice a b s).1.chR = s.chR ∧ (serveSplice a b s).1.target = s.target ∧
    (serveSplice a b s).1.slopeRaw = s.slopeRaw ∧ (serveSplice a b s).1.mlc = s.mlc ∧ (serveSplice a b s).1.spr = s.spr ∧
    (serveSplice a b s).1.chd = s.chd ∧ (serveSplice a b s).1.cst = s.cst ∧ (serveSplice a b s).1.load = s.load ∧
    (serveSplice a b s).1.tqs = s.tqs ∧ (serveSplice a b s).1.mpr = s.mpr ∧ (serveSplice a b s).1.clp = s.clp ∧
    (serveSplice a b s).1.freeUsed = s.freeUsed ∧ (serveSplice a b s).1.pending = s.pending := by
  simp only [serveSplice]
  (repeat' split) <;> simp [accept, refuse]

@[simp] theorem serveSpliceResume_frame (s : State) :
    (serveSpliceResume s).1.now = s.now ∧ (serveSpliceResume s).1.eStop = s.eStop ∧ (serveSpliceResume s).1.trc = s.trc ∧
    (serveSpliceResume s).1.chL = s.chL ∧ (serveSpliceResume s).1.chR = s.chR ∧ (serveSpliceResume s).1.target = s.target ∧
    (serveSpliceResume s).1.slopeRaw = s.slopeRaw ∧ (serveSpliceResume s).1.mlc = s.mlc ∧
    (serveSpliceResume s).1.spr = s.spr ∧ (serveSpliceResume s).1.chd = s.chd ∧ (serveSpliceResume s).1.cst = s.cst ∧
    (serveSpliceResume s).1.load = s.load ∧ (serveSpliceResume s).1.tqs = s.tqs ∧ (serveSpliceResume s).1.mpr = s.mpr ∧
    (serveSpliceResume s).1.clp = s.clp ∧ (serveSpliceResume s).1.freeUsed = s.freeUsed ∧
    (serveSpliceResume s).1.pending = s.pending := by
  simp only [serveSpliceResume]
  (repeat' split) <;> simp [accept, refuse]

@[simp] theorem serveSpliceAbort_frame (s : State) :
    (serveSpliceAbort s).1.now = s.now ∧ (serveSpliceAbort s).1.eStop = s.eStop ∧ (serveSpliceAbort s).1.trc = s.trc ∧
    (serveSpliceAbort s).1.chL = s.chL ∧ (serveSpliceAbort s).1.chR = s.chR ∧ (serveSpliceAbort s).1.target = s.target ∧
    (serveSpliceAbort s).1.slopeRaw = s.slopeRaw ∧ (serveSpliceAbort s).1.mlc = s.mlc ∧
    (serveSpliceAbort s).1.spr = s.spr ∧ (serveSpliceAbort s).1.chd = s.chd ∧ (serveSpliceAbort s).1.cst = s.cst ∧
    (serveSpliceAbort s).1.load = s.load ∧ (serveSpliceAbort s).1.tqs = s.tqs ∧ (serveSpliceAbort s).1.mpr = s.mpr ∧
    (serveSpliceAbort s).1.clp = s.clp ∧ (serveSpliceAbort s).1.freeUsed = s.freeUsed ∧
    (serveSpliceAbort s).1.pending = s.pending := by
  simp only [serveSpliceAbort]
  (repeat' split) <;> simp [accept, refuse]

@[simp] theorem servePlanClear_frame (s : State) :
    (servePlanClear s).1.now = s.now ∧ (servePlanClear s).1.eStop = s.eStop ∧ (servePlanClear s).1.trc = s.trc ∧
    (servePlanClear s).1.chL = s.chL ∧ (servePlanClear s).1.chR = s.chR ∧ (servePlanClear s).1.target = s.target ∧
    (servePlanClear s).1.slopeRaw = s.slopeRaw ∧ (servePlanClear s).1.spr = s.spr ∧ (servePlanClear s).1.chd = s.chd ∧
    (servePlanClear s).1.cst = s.cst ∧ (servePlanClear s).1.load = s.load ∧ (servePlanClear s).1.mpr = s.mpr ∧
    (servePlanClear s).1.freeUsed = s.freeUsed ∧ (servePlanClear s).1.pending = s.pending ∧
    (servePlanClear s).1.clp.rx = s.clp.rx ∧ (servePlanClear s).1.clp.buffer = s.clp.buffer ∧
    (servePlanClear s).1.clp.slot = s.clp.slot ∧ (servePlanClear s).1.clp.tx = s.clp.tx ∧
    (servePlanClear s).1.clp.enabled = s.clp.enabled ∧ (servePlanClear s).1.clp.silent = s.clp.silent ∧
    (servePlanClear s).1.clp.silence = s.clp.silence ∧ (servePlanClear s).1.clp.telemetry = s.clp.telemetry ∧
    (servePlanClear s).1.clp.counters = s.clp.counters := by
  simp only [servePlanClear]
  (repeat' split) <;> simp [accept, refuse]

@[simp] theorem serveAddMarker_frame (m : Int) (l t : Nat) (s : State) :
    (serveAddMarker m l t s).1.now = s.now ∧ (serveAddMarker m l t s).1.eStop = s.eStop ∧
    (serveAddMarker m l t s).1.trc = s.trc ∧ (serveAddMarker m l t s).1.plt = s.plt ∧
    (serveAddMarker m l t s).1.chL = s.chL ∧ (serveAddMarker m l t s).1.chR = s.chR ∧
    (serveAddMarker m l t s).1.target = s.target ∧ (serveAddMarker m l t s).1.slopeRaw = s.slopeRaw ∧
    (serveAddMarker m l t s).1.spr = s.spr ∧ (serveAddMarker m l t s).1.chd = s.chd ∧
    (serveAddMarker m l t s).1.cst = s.cst ∧ (serveAddMarker m l t s).1.load = s.load ∧
    (serveAddMarker m l t s).1.tqs = s.tqs ∧ (serveAddMarker m l t s).1.mpr = s.mpr ∧
    (serveAddMarker m l t s).1.freeUsed = s.freeUsed ∧ (serveAddMarker m l t s).1.pending = s.pending ∧
    (serveAddMarker m l t s).1.clp.rx = s.clp.rx ∧ (serveAddMarker m l t s).1.clp.buffer = s.clp.buffer ∧
    (serveAddMarker m l t s).1.clp.slot = s.clp.slot ∧ (serveAddMarker m l t s).1.clp.tx = s.clp.tx ∧
    (serveAddMarker m l t s).1.clp.enabled = s.clp.enabled ∧ (serveAddMarker m l t s).1.clp.silent = s.clp.silent ∧
    (serveAddMarker m l t s).1.clp.silence = s.clp.silence ∧ (serveAddMarker m l t s).1.clp.telemetry = s.clp.telemetry ∧
    (serveAddMarker m l t s).1.clp.counters = s.clp.counters := by
  simp only [serveAddMarker, insertNewMarker]
  (repeat' split) <;> simp [accept, refuse]

@[simp] theorem serveRemoveMarker_frame (i : Nat) (s : State) :
    (serveRemoveMarker i s).1.now = s.now ∧ (serveRemoveMarker i s).1.eStop = s.eStop ∧
    (serveRemoveMarker i s).1.trc = s.trc ∧ (serveRemoveMarker i s).1.plt = s.plt ∧ (serveRemoveMarker i s).1.chL = s.chL ∧
    (serveRemoveMarker i s).1.chR = s.chR ∧ (serveRemoveMarker i s).1.target = s.target ∧
    (serveRemoveMarker i s).1.slopeRaw = s.slopeRaw ∧ (serveRemoveMarker i s).1.spr = s.spr ∧
    (serveRemoveMarker i s).1.chd = s.chd ∧ (serveRemoveMarker i s).1.cst = s.cst ∧
    (serveRemoveMarker i s).1.load = s.load ∧ (serveRemoveMarker i s).1.tqs = s.tqs ∧
    (serveRemoveMarker i s).1.mpr = s.mpr ∧ (serveRemoveMarker i s).1.clp = s.clp ∧
    (serveRemoveMarker i s).1.freeUsed = s.freeUsed ∧ (serveRemoveMarker i s).1.pending = s.pending := by
  simp only [serveRemoveMarker]
  (repeat' split) <;> simp [accept, refuse]

@[simp] theorem serveLift_frame (s : State) :
    (serveLift s).1.now = s.now ∧ (serveLift s).1.eStop = s.eStop ∧ (serveLift s).1.trc = s.trc ∧
    (serveLift s).1.plt = s.plt ∧ (serveLift s).1.chL = s.chL ∧ (serveLift s).1.chR = s.chR ∧
    (serveLift s).1.target = s.target ∧ (serveLift s).1.slopeRaw = s.slopeRaw ∧ (serveLift s).1.spr = s.spr ∧
    (serveLift s).1.chd = s.chd ∧ (serveLift s).1.cst = s.cst ∧ (serveLift s).1.load = s.load ∧
    (serveLift s).1.tqs = s.tqs ∧ (serveLift s).1.mpr = s.mpr ∧ (serveLift s).1.freeUsed = s.freeUsed ∧
    (serveLift s).1.pending = s.pending ∧ (serveLift s).1.clp.rx = s.clp.rx ∧ (serveLift s).1.clp.buffer = s.clp.buffer ∧
    (serveLift s).1.clp.slot = s.clp.slot ∧ (serveLift s).1.clp.tx = s.clp.tx ∧
    (serveLift s).1.clp.enabled = s.clp.enabled ∧ (serveLift s).1.clp.silent = s.clp.silent ∧
    (serveLift s).1.clp.silence = s.clp.silence ∧ (serveLift s).1.clp.telemetry = s.clp.telemetry ∧
    (serveLift s).1.clp.counters = s.clp.counters := by
  simp only [serveLift]
  (repeat' split) <;> simp [accept, refuse]

@[simp] theorem serveReturn_frame (s : State) :
    (serveReturn s).1.now = s.now ∧ (serveReturn s).1.eStop = s.eStop ∧ (serveReturn s).1.trc = s.trc ∧
    (serveReturn s).1.plt = s.plt ∧ (serveReturn s).1.chL = s.chL ∧ (serveReturn s).1.chR = s.chR ∧
    (serveReturn s).1.target = s.target ∧ (serveReturn s).1.slopeRaw = s.slopeRaw ∧ (serveReturn s).1.spr = s.spr ∧
    (serveReturn s).1.chd = s.chd ∧ (serveReturn s).1.cst = s.cst ∧ (serveReturn s).1.load = s.load ∧
    (serveReturn s).1.tqs = s.tqs ∧ (serveReturn s).1.mpr = s.mpr ∧ (serveReturn s).1.freeUsed = s.freeUsed ∧
    (serveReturn s).1.pending = s.pending ∧ (serveReturn s).1.clp.rx = s.clp.rx ∧
    (serveReturn s).1.clp.buffer = s.clp.buffer ∧ (serveReturn s).1.clp.slot = s.clp.slot ∧
    (serveReturn s).1.clp.tx = s.clp.tx ∧ (serveReturn s).1.clp.enabled = s.clp.enabled ∧
    (serveReturn s).1.clp.silent = s.clp.silent ∧ (serveReturn s).1.clp.silence = s.clp.silence ∧
    (serveReturn s).1.clp.telemetry = s.clp.telemetry ∧ (serveReturn s).1.clp.counters = s.clp.counters := by
  simp only [serveReturn]
  (repeat' split) <;> simp [accept, refuse]

@[simp] theorem serveSelectTarget_frame (x : Nat) (s : State) :
    (serveSelectTarget x s).1.now = s.now ∧ (serveSelectTarget x s).1.eStop = s.eStop ∧
    (serveSelectTarget x s).1.trc = s.trc ∧ (serveSelectTarget x s).1.plt = s.plt ∧
    (serveSelectTarget x s).1.slopeRaw = s.slopeRaw ∧ (serveSelectTarget x s).1.spr = s.spr ∧
    (serveSelectTarget x s).1.chd = s.chd ∧ (serveSelectTarget x s).1.cst = s.cst ∧
    (serveSelectTarget x s).1.load = s.load ∧ (serveSelectTarget x s).1.mpr = s.mpr ∧
    (serveSelectTarget x s).1.freeUsed = s.freeUsed ∧ (serveSelectTarget x s).1.pending = s.pending ∧
    (serveSelectTarget x s).1.clp.rx = s.clp.rx ∧ (serveSelectTarget x s).1.clp.buffer = s.clp.buffer ∧
    (serveSelectTarget x s).1.clp.slot = s.clp.slot ∧ (serveSelectTarget x s).1.clp.tx = s.clp.tx ∧
    (serveSelectTarget x s).1.clp.enabled = s.clp.enabled ∧ (serveSelectTarget x s).1.clp.silent = s.clp.silent ∧
    (serveSelectTarget x s).1.clp.silence = s.clp.silence ∧ (serveSelectTarget x s).1.clp.telemetry = s.clp.telemetry ∧
    (serveSelectTarget x s).1.clp.counters = s.clp.counters := by
  unfold serveSelectTarget
  split <;> simp [accept, refuse]

@[simp] theorem serveSetPoint_frame (x m : Nat) (d c : Int) (s : State) :
    (serveSetPoint x m d c s).1.now = s.now ∧ (serveSetPoint x m d c s).1.eStop = s.eStop ∧
    (serveSetPoint x m d c s).1.trc = s.trc ∧ (serveSetPoint x m d c s).1.plt = s.plt ∧
    (serveSetPoint x m d c s).1.target = s.target ∧ (serveSetPoint x m d c s).1.slopeRaw = s.slopeRaw ∧
    (serveSetPoint x m d c s).1.mlc = s.mlc ∧ (serveSetPoint x m d c s).1.spr = s.spr ∧
    (serveSetPoint x m d c s).1.chd = s.chd ∧ (serveSetPoint x m d c s).1.cst = s.cst ∧
    (serveSetPoint x m d c s).1.load = s.load ∧ (serveSetPoint x m d c s).1.tqs = s.tqs ∧
    (serveSetPoint x m d c s).1.mpr = s.mpr ∧ (serveSetPoint x m d c s).1.clp = s.clp ∧
    (serveSetPoint x m d c s).1.freeUsed = s.freeUsed ∧ (serveSetPoint x m d c s).1.pending = s.pending := by
  simp only [serveSetPoint]
  (repeat' split) <;> simp [refuse, acceptClamped]

@[simp] theorem serveSetTrim_frame (x : Nat) (t : Int) (s : State) :
    (serveSetTrim x t s).1.now = s.now ∧ (serveSetTrim x t s).1.eStop = s.eStop ∧ (serveSetTrim x t s).1.trc = s.trc ∧
    (serveSetTrim x t s).1.plt = s.plt ∧ (serveSetTrim x t s).1.target = s.target ∧
    (serveSetTrim x t s).1.slopeRaw = s.slopeRaw ∧ (serveSetTrim x t s).1.mlc = s.mlc ∧
    (serveSetTrim x t s).1.spr = s.spr ∧ (serveSetTrim x t s).1.chd = s.chd ∧ (serveSetTrim x t s).1.cst = s.cst ∧
    (serveSetTrim x t s).1.load = s.load ∧ (serveSetTrim x t s).1.tqs = s.tqs ∧ (serveSetTrim x t s).1.mpr = s.mpr ∧
    (serveSetTrim x t s).1.clp = s.clp ∧ (serveSetTrim x t s).1.freeUsed = s.freeUsed ∧
    (serveSetTrim x t s).1.pending = s.pending := by
  simp only [serveSetTrim]
  (repeat' split) <;> simp [refuse, acceptClamped]

@[simp] theorem serveEngage_frame (x : Nat) (s : State) :
    (serveEngage x s).1.now = s.now ∧ (serveEngage x s).1.eStop = s.eStop ∧ (serveEngage x s).1.trc = s.trc ∧
    (serveEngage x s).1.plt = s.plt ∧ (serveEngage x s).1.target = s.target ∧ (serveEngage x s).1.slopeRaw = s.slopeRaw ∧
    (serveEngage x s).1.mlc = s.mlc ∧ (serveEngage x s).1.spr = s.spr ∧ (serveEngage x s).1.chd = s.chd ∧
    (serveEngage x s).1.cst = s.cst ∧ (serveEngage x s).1.load = s.load ∧ (serveEngage x s).1.mpr = s.mpr ∧
    (serveEngage x s).1.freeUsed = s.freeUsed ∧ (serveEngage x s).1.pending = s.pending ∧
    (serveEngage x s).1.clp.rx = s.clp.rx ∧ (serveEngage x s).1.clp.buffer = s.clp.buffer ∧
    (serveEngage x s).1.clp.slot = s.clp.slot ∧ (serveEngage x s).1.clp.tx = s.clp.tx ∧
    (serveEngage x s).1.clp.enabled = s.clp.enabled ∧ (serveEngage x s).1.clp.silent = s.clp.silent ∧
    (serveEngage x s).1.clp.silence = s.clp.silence ∧ (serveEngage x s).1.clp.telemetry = s.clp.telemetry ∧
    (serveEngage x s).1.clp.counters = s.clp.counters := by
  simp only [serveEngage, accept, refuse]
  rcases x with _ | _ | _ | x <;> simp only [sidesOf] <;> (repeat' split) <;> simp

@[simp] theorem serveDisengage_frame (x : Nat) (s : State) :
    (serveDisengage x s).1.now = s.now ∧ (serveDisengage x s).1.eStop = s.eStop ∧ (serveDisengage x s).1.trc = s.trc ∧
    (serveDisengage x s).1.plt = s.plt ∧ (serveDisengage x s).1.target = s.target ∧
    (serveDisengage x s).1.slopeRaw = s.slopeRaw ∧ (serveDisengage x s).1.spr = s.spr ∧
    (serveDisengage x s).1.chd = s.chd ∧ (serveDisengage x s).1.cst = s.cst ∧ (serveDisengage x s).1.load = s.load ∧
    (serveDisengage x s).1.mpr = s.mpr ∧ (serveDisengage x s).1.freeUsed = s.freeUsed ∧
    (serveDisengage x s).1.pending = s.pending ∧ (serveDisengage x s).1.clp.rx = s.clp.rx ∧
    (serveDisengage x s).1.clp.buffer = s.clp.buffer ∧ (serveDisengage x s).1.clp.slot = s.clp.slot ∧
    (serveDisengage x s).1.clp.tx = s.clp.tx ∧ (serveDisengage x s).1.clp.enabled = s.clp.enabled ∧
    (serveDisengage x s).1.clp.silent = s.clp.silent ∧ (serveDisengage x s).1.clp.silence = s.clp.silence ∧
    (serveDisengage x s).1.clp.telemetry = s.clp.telemetry ∧ (serveDisengage x s).1.clp.counters = s.clp.counters := by
  simp only [serveDisengage, accept, refuse]
  rcases x with _ | _ | _ | x <;> simp only [sidesOf] <;> simp

@[simp] theorem serveJog_frame (x : Nat) (v : Int) (d : Nat) (s : State) :
    (serveJog x v d s).1.now = s.now ∧ (serveJog x v d s).1.eStop = s.eStop ∧ (serveJog x v d s).1.trc = s.trc ∧
    (serveJog x v d s).1.plt = s.plt ∧ (serveJog x v d s).1.target = s.target ∧
    (serveJog x v d s).1.slopeRaw = s.slopeRaw ∧ (serveJog x v d s).1.mlc = s.mlc ∧ (serveJog x v d s).1.spr = s.spr ∧
    (serveJog x v d s).1.chd = s.chd ∧ (serveJog x v d s).1.cst = s.cst ∧ (serveJog x v d s).1.load = s.load ∧
    (serveJog x v d s).1.mpr = s.mpr ∧ (serveJog x v d s).1.freeUsed = s.freeUsed ∧
    (serveJog x v d s).1.pending = s.pending ∧ (serveJog x v d s).1.clp.rx = s.clp.rx ∧
    (serveJog x v d s).1.clp.buffer = s.clp.buffer ∧ (serveJog x v d s).1.clp.slot = s.clp.slot ∧
    (serveJog x v d s).1.clp.tx = s.clp.tx ∧ (serveJog x v d s).1.clp.enabled = s.clp.enabled ∧
    (serveJog x v d s).1.clp.silent = s.clp.silent ∧ (serveJog x v d s).1.clp.silence = s.clp.silence ∧
    (serveJog x v d s).1.clp.telemetry = s.clp.telemetry ∧ (serveJog x v d s).1.clp.counters = s.clp.counters := by
  simp only [serveJog]
  (repeat' split) <;> simp [refuse, acceptClamped]

@[simp] theorem serveScanEnable_frame (x : Nat) (s : State) :
    (serveScanEnable x s).1.now = s.now ∧ (serveScanEnable x s).1.eStop = s.eStop ∧ (serveScanEnable x s).1.trc = s.trc ∧
    (serveScanEnable x s).1.plt = s.plt ∧ (serveScanEnable x s).1.chL = s.chL ∧ (serveScanEnable x s).1.chR = s.chR ∧
    (serveScanEnable x s).1.target = s.target ∧ (serveScanEnable x s).1.slopeRaw = s.slopeRaw ∧
    (serveScanEnable x s).1.mlc = s.mlc ∧ (serveScanEnable x s).1.cst = s.cst ∧ (serveScanEnable x s).1.load = s.load ∧
    (serveScanEnable x s).1.tqs = s.tqs ∧ (serveScanEnable x s).1.mpr = s.mpr ∧
    (serveScanEnable x s).1.freeUsed = s.freeUsed ∧ (serveScanEnable x s).1.pending = s.pending ∧
    (serveScanEnable x s).1.clp.rx = s.clp.rx ∧ (serveScanEnable x s).1.clp.buffer = s.clp.buffer ∧
    (serveScanEnable x s).1.clp.slot = s.clp.slot ∧ (serveScanEnable x s).1.clp.tx = s.clp.tx ∧
    (serveScanEnable x s).1.clp.enabled = s.clp.enabled ∧ (serveScanEnable x s).1.clp.silent = s.clp.silent ∧
    (serveScanEnable x s).1.clp.silence = s.clp.silence ∧ (serveScanEnable x s).1.clp.telemetry = s.clp.telemetry ∧
    (serveScanEnable x s).1.clp.counters = s.clp.counters := by
  simp only [serveScanEnable]
  (repeat' split) <;> simp [accept, refuse]

@[simp] theorem serveSetCellMask_frame (m : BitVec 16) (s : State) :
    (serveSetCellMask m s).1.now = s.now ∧ (serveSetCellMask m s).1.eStop = s.eStop ∧
    (serveSetCellMask m s).1.trc = s.trc ∧ (serveSetCellMask m s).1.plt = s.plt ∧ (serveSetCellMask m s).1.chL = s.chL ∧
    (serveSetCellMask m s).1.chR = s.chR ∧ (serveSetCellMask m s).1.target = s.target ∧
    (serveSetCellMask m s).1.slopeRaw = s.slopeRaw ∧ (serveSetCellMask m s).1.mlc = s.mlc ∧
    (serveSetCellMask m s).1.spr = s.spr ∧ (serveSetCellMask m s).1.cst = s.cst ∧ (serveSetCellMask m s).1.load = s.load ∧
    (serveSetCellMask m s).1.tqs = s.tqs ∧ (serveSetCellMask m s).1.mpr = s.mpr ∧ (serveSetCellMask m s).1.clp = s.clp ∧
    (serveSetCellMask m s).1.freeUsed = s.freeUsed ∧ (serveSetCellMask m s).1.pending = s.pending := by
  simp only [serveSetCellMask]
  (repeat' split) <;> simp [accept, refuse]

@[simp] theorem serveTakeReference_frame (s : State) :
    (serveTakeReference s).1.now = s.now ∧ (serveTakeReference s).1.eStop = s.eStop ∧
    (serveTakeReference s).1.trc = s.trc ∧ (serveTakeReference s).1.plt = s.plt ∧ (serveTakeReference s).1.chL = s.chL ∧
    (serveTakeReference s).1.chR = s.chR ∧ (serveTakeReference s).1.target = s.target ∧
    (serveTakeReference s).1.slopeRaw = s.slopeRaw ∧ (serveTakeReference s).1.mlc = s.mlc ∧
    (serveTakeReference s).1.spr = s.spr ∧ (serveTakeReference s).1.cst = s.cst ∧ (serveTakeReference s).1.load = s.load ∧
    (serveTakeReference s).1.tqs = s.tqs ∧ (serveTakeReference s).1.mpr = s.mpr ∧ (serveTakeReference s).1.clp = s.clp ∧
    (serveTakeReference s).1.freeUsed = s.freeUsed ∧ (serveTakeReference s).1.pending = s.pending := by
  simp only [serveTakeReference]
  (repeat' split) <;> simp [accept, refuse]

@[simp] theorem serveClearFlags_frame (m : BitVec 16) (s : State) :
    (serveClearFlags m s).1.now = s.now ∧ (serveClearFlags m s).1.eStop = s.eStop ∧ (serveClearFlags m s).1.trc = s.trc ∧
    (serveClearFlags m s).1.plt = s.plt ∧ (serveClearFlags m s).1.chL = s.chL ∧ (serveClearFlags m s).1.chR = s.chR ∧
    (serveClearFlags m s).1.target = s.target ∧ (serveClearFlags m s).1.slopeRaw = s.slopeRaw ∧
    (serveClearFlags m s).1.mlc = s.mlc ∧ (serveClearFlags m s).1.spr = s.spr ∧ (serveClearFlags m s).1.chd = s.chd ∧
    (serveClearFlags m s).1.load = s.load ∧ (serveClearFlags m s).1.tqs = s.tqs ∧ (serveClearFlags m s).1.mpr = s.mpr ∧
    (serveClearFlags m s).1.clp = s.clp ∧ (serveClearFlags m s).1.freeUsed = s.freeUsed ∧
    (serveClearFlags m s).1.pending = s.pending := by
  simp only [serveClearFlags]
  (repeat' split) <;> simp [accept, refuse]

@[simp] theorem serveArmFault_frame (x : Nat) (s : State) :
    (serveArmFault x s).1.now = s.now ∧ (serveArmFault x s).1.eStop = s.eStop ∧ (serveArmFault x s).1.trc = s.trc ∧
    (serveArmFault x s).1.plt = s.plt ∧ (serveArmFault x s).1.chL = s.chL ∧ (serveArmFault x s).1.chR = s.chR ∧
    (serveArmFault x s).1.target = s.target ∧ (serveArmFault x s).1.slopeRaw = s.slopeRaw ∧
    (serveArmFault x s).1.mlc = s.mlc ∧ (serveArmFault x s).1.spr = s.spr ∧ (serveArmFault x s).1.chd = s.chd ∧
    (serveArmFault x s).1.load = s.load ∧ (serveArmFault x s).1.tqs = s.tqs ∧ (serveArmFault x s).1.mpr = s.mpr ∧
    (serveArmFault x s).1.clp = s.clp ∧ (serveArmFault x s).1.freeUsed = s.freeUsed ∧
    (serveArmFault x s).1.pending = s.pending := by
  simp only [serveArmFault]
  (repeat' split) <;> simp [accept, refuse]

@[simp] theorem serveCountersReset_frame (s : State) :
    (serveCountersReset s).1.now = s.now ∧ (serveCountersReset s).1.eStop = s.eStop ∧
    (serveCountersReset s).1.trc = s.trc ∧ (serveCountersReset s).1.plt = s.plt ∧ (serveCountersReset s).1.chL = s.chL ∧
    (serveCountersReset s).1.chR = s.chR ∧ (serveCountersReset s).1.target = s.target ∧
    (serveCountersReset s).1.slopeRaw = s.slopeRaw ∧ (serveCountersReset s).1.mlc = s.mlc ∧
    (serveCountersReset s).1.spr = s.spr ∧ (serveCountersReset s).1.chd = s.chd ∧ (serveCountersReset s).1.cst = s.cst ∧
    (serveCountersReset s).1.tqs = s.tqs ∧ (serveCountersReset s).1.mpr = s.mpr ∧ (serveCountersReset s).1.clp = s.clp ∧
    (serveCountersReset s).1.freeUsed = s.freeUsed ∧ (serveCountersReset s).1.pending = s.pending := by
  simp [serveCountersReset, accept]

@[simp] theorem serveTruckAdd_frame (i t : Nat) (s : State) :
    (serveTruckAdd i t s).1.now = s.now ∧ (serveTruckAdd i t s).1.eStop = s.eStop ∧ (serveTruckAdd i t s).1.trc = s.trc ∧
    (serveTruckAdd i t s).1.plt = s.plt ∧ (serveTruckAdd i t s).1.chL = s.chL ∧ (serveTruckAdd i t s).1.chR = s.chR ∧
    (serveTruckAdd i t s).1.target = s.target ∧ (serveTruckAdd i t s).1.slopeRaw = s.slopeRaw ∧
    (serveTruckAdd i t s).1.mlc = s.mlc ∧ (serveTruckAdd i t s).1.spr = s.spr ∧ (serveTruckAdd i t s).1.chd = s.chd ∧
    (serveTruckAdd i t s).1.cst = s.cst ∧ (serveTruckAdd i t s).1.load = s.load ∧ (serveTruckAdd i t s).1.mpr = s.mpr ∧
    (serveTruckAdd i t s).1.clp = s.clp ∧ (serveTruckAdd i t s).1.freeUsed = s.freeUsed ∧
    (serveTruckAdd i t s).1.pending = s.pending := by
  simp only [serveTruckAdd]
  (repeat' split) <;> simp [accept, refuse]

@[simp] theorem serveTruckInPosition_frame (i : Nat) (s : State) :
    (serveTruckInPosition i s).1.now = s.now ∧ (serveTruckInPosition i s).1.eStop = s.eStop ∧
    (serveTruckInPosition i s).1.trc = s.trc ∧ (serveTruckInPosition i s).1.plt = s.plt ∧
    (serveTruckInPosition i s).1.chL = s.chL ∧ (serveTruckInPosition i s).1.chR = s.chR ∧
    (serveTruckInPosition i s).1.target = s.target ∧ (serveTruckInPosition i s).1.slopeRaw = s.slopeRaw ∧
    (serveTruckInPosition i s).1.mlc = s.mlc ∧ (serveTruckInPosition i s).1.spr = s.spr ∧
    (serveTruckInPosition i s).1.chd = s.chd ∧ (serveTruckInPosition i s).1.cst = s.cst ∧
    (serveTruckInPosition i s).1.load = s.load ∧ (serveTruckInPosition i s).1.mpr = s.mpr ∧
    (serveTruckInPosition i s).1.freeUsed = s.freeUsed ∧ (serveTruckInPosition i s).1.pending = s.pending ∧
    (serveTruckInPosition i s).1.clp.rx = s.clp.rx ∧ (serveTruckInPosition i s).1.clp.buffer = s.clp.buffer ∧
    (serveTruckInPosition i s).1.clp.slot = s.clp.slot ∧ (serveTruckInPosition i s).1.clp.tx = s.clp.tx ∧
    (serveTruckInPosition i s).1.clp.enabled = s.clp.enabled ∧ (serveTruckInPosition i s).1.clp.silent = s.clp.silent ∧
    (serveTruckInPosition i s).1.clp.silence = s.clp.silence ∧
    (serveTruckInPosition i s).1.clp.telemetry = s.clp.telemetry ∧
    (serveTruckInPosition i s).1.clp.counters = s.clp.counters := by
  simp only [serveTruckInPosition]
  (repeat' split) <;> simp [accept, refuse]

@[simp] theorem serveTruckAway_frame (i : Nat) (s : State) :
    (serveTruckAway i s).1.now = s.now ∧ (serveTruckAway i s).1.eStop = s.eStop ∧ (serveTruckAway i s).1.trc = s.trc ∧
    (serveTruckAway i s).1.plt = s.plt ∧ (serveTruckAway i s).1.chL = s.chL ∧ (serveTruckAway i s).1.chR = s.chR ∧
    (serveTruckAway i s).1.target = s.target ∧ (serveTruckAway i s).1.slopeRaw = s.slopeRaw ∧
    (serveTruckAway i s).1.mlc = s.mlc ∧ (serveTruckAway i s).1.spr = s.spr ∧ (serveTruckAway i s).1.chd = s.chd ∧
    (serveTruckAway i s).1.cst = s.cst ∧ (serveTruckAway i s).1.load = s.load ∧ (serveTruckAway i s).1.mpr = s.mpr ∧
    (serveTruckAway i s).1.freeUsed = s.freeUsed ∧ (serveTruckAway i s).1.pending = s.pending ∧
    (serveTruckAway i s).1.clp.rx = s.clp.rx ∧ (serveTruckAway i s).1.clp.buffer = s.clp.buffer ∧
    (serveTruckAway i s).1.clp.slot = s.clp.slot ∧ (serveTruckAway i s).1.clp.tx = s.clp.tx ∧
    (serveTruckAway i s).1.clp.enabled = s.clp.enabled ∧ (serveTruckAway i s).1.clp.silent = s.clp.silent ∧
    (serveTruckAway i s).1.clp.silence = s.clp.silence ∧ (serveTruckAway i s).1.clp.telemetry = s.clp.telemetry ∧
    (serveTruckAway i s).1.clp.counters = s.clp.counters := by
  simp only [serveTruckAway]
  (repeat' split) <;> simp [accept, refuse]

@[simp] theorem serveTruckRemove_frame (i : Nat) (s : State) :
    (serveTruckRemove i s).1.now = s.now ∧ (serveTruckRemove i s).1.eStop = s.eStop ∧
    (serveTruckRemove i s).1.trc = s.trc ∧ (serveTruckRemove i s).1.plt = s.plt ∧ (serveTruckRemove i s).1.chL = s.chL ∧
    (serveTruckRemove i s).1.chR = s.chR ∧ (serveTruckRemove i s).1.target = s.target ∧
    (serveTruckRemove i s).1.slopeRaw = s.slopeRaw ∧ (serveTruckRemove i s).1.mlc = s.mlc ∧
    (serveTruckRemove i s).1.spr = s.spr ∧ (serveTruckRemove i s).1.chd = s.chd ∧ (serveTruckRemove i s).1.cst = s.cst ∧
    (serveTruckRemove i s).1.load = s.load ∧ (serveTruckRemove i s).1.mpr = s.mpr ∧ (serveTruckRemove i s).1.clp = s.clp ∧
    (serveTruckRemove i s).1.freeUsed = s.freeUsed ∧ (serveTruckRemove i s).1.pending = s.pending := by
  simp only [serveTruckRemove]
  (repeat' split) <;> simp [accept, refuse]

@[simp] theorem serveConveyorStart_frame (s : State) :
    (serveConveyorStart s).1.now = s.now ∧ (serveConveyorStart s).1.eStop = s.eStop ∧
    (serveConveyorStart s).1.trc = s.trc ∧ (serveConveyorStart s).1.plt = s.plt ∧ (serveConveyorStart s).1.chL = s.chL ∧
    (serveConveyorStart s).1.chR = s.chR ∧ (serveConveyorStart s).1.target = s.target ∧
    (serveConveyorStart s).1.slopeRaw = s.slopeRaw ∧ (serveConveyorStart s).1.mlc = s.mlc ∧
    (serveConveyorStart s).1.spr = s.spr ∧ (serveConveyorStart s).1.chd = s.chd ∧ (serveConveyorStart s).1.cst = s.cst ∧
    (serveConveyorStart s).1.load = s.load ∧ (serveConveyorStart s).1.mpr = s.mpr ∧
    (serveConveyorStart s).1.freeUsed = s.freeUsed ∧ (serveConveyorStart s).1.pending = s.pending ∧
    (serveConveyorStart s).1.clp.rx = s.clp.rx ∧ (serveConveyorStart s).1.clp.buffer = s.clp.buffer ∧
    (serveConveyorStart s).1.clp.slot = s.clp.slot ∧ (serveConveyorStart s).1.clp.tx = s.clp.tx ∧
    (serveConveyorStart s).1.clp.enabled = s.clp.enabled ∧ (serveConveyorStart s).1.clp.silent = s.clp.silent ∧
    (serveConveyorStart s).1.clp.silence = s.clp.silence ∧ (serveConveyorStart s).1.clp.telemetry = s.clp.telemetry ∧
    (serveConveyorStart s).1.clp.counters = s.clp.counters := by
  simp only [serveConveyorStart]
  (repeat' split) <;> simp [accept, refuse]

@[simp] theorem serveConveyorStop_frame (s : State) :
    (serveConveyorStop s).1.now = s.now ∧ (serveConveyorStop s).1.eStop = s.eStop ∧ (serveConveyorStop s).1.trc = s.trc ∧
    (serveConveyorStop s).1.plt = s.plt ∧ (serveConveyorStop s).1.chL = s.chL ∧ (serveConveyorStop s).1.chR = s.chR ∧
    (serveConveyorStop s).1.target = s.target ∧ (serveConveyorStop s).1.slopeRaw = s.slopeRaw ∧
    (serveConveyorStop s).1.mlc = s.mlc ∧ (serveConveyorStop s).1.spr = s.spr ∧ (serveConveyorStop s).1.chd = s.chd ∧
    (serveConveyorStop s).1.cst = s.cst ∧ (serveConveyorStop s).1.load = s.load ∧ (serveConveyorStop s).1.mpr = s.mpr ∧
    (serveConveyorStop s).1.freeUsed = s.freeUsed ∧ (serveConveyorStop s).1.pending = s.pending ∧
    (serveConveyorStop s).1.clp.rx = s.clp.rx ∧ (serveConveyorStop s).1.clp.buffer = s.clp.buffer ∧
    (serveConveyorStop s).1.clp.slot = s.clp.slot ∧ (serveConveyorStop s).1.clp.tx = s.clp.tx ∧
    (serveConveyorStop s).1.clp.enabled = s.clp.enabled ∧ (serveConveyorStop s).1.clp.silent = s.clp.silent ∧
    (serveConveyorStop s).1.clp.silence = s.clp.silence ∧ (serveConveyorStop s).1.clp.telemetry = s.clp.telemetry ∧
    (serveConveyorStop s).1.clp.counters = s.clp.counters := by
  simp only [serveConveyorStop]
  (repeat' split) <;> simp [accept]

@[simp] theorem serveSetParam_frame (i : Nat) (v : Int) (s : State) :
    (serveSetParam i v s).1.now = s.now ∧ (serveSetParam i v s).1.eStop = s.eStop ∧ (serveSetParam i v s).1.trc = s.trc ∧
    (serveSetParam i v s).1.target = s.target ∧ (serveSetParam i v s).1.slopeRaw = s.slopeRaw ∧
    (serveSetParam i v s).1.spr = s.spr ∧ (serveSetParam i v s).1.load = s.load ∧
    (serveSetParam i v s).1.freeUsed = s.freeUsed ∧ (serveSetParam i v s).1.pending = s.pending ∧
    (serveSetParam i v s).1.clp.rx = s.clp.rx ∧ (serveSetParam i v s).1.clp.buffer = s.clp.buffer ∧
    (serveSetParam i v s).1.clp.slot = s.clp.slot ∧ (serveSetParam i v s).1.clp.tx = s.clp.tx ∧
    (serveSetParam i v s).1.clp.enabled = s.clp.enabled ∧ (serveSetParam i v s).1.clp.silent = s.clp.silent ∧
    (serveSetParam i v s).1.clp.counters = s.clp.counters := by
  simp only [serveSetParam, refuseLocked]
  (repeat' split) <;> simp [accept, refuse]

@[simp] theorem serveLockEnvelope_frame (s : State) :
    (serveLockEnvelope s).1.now = s.now ∧ (serveLockEnvelope s).1.eStop = s.eStop ∧ (serveLockEnvelope s).1.trc = s.trc ∧
    (serveLockEnvelope s).1.plt = s.plt ∧ (serveLockEnvelope s).1.chL = s.chL ∧ (serveLockEnvelope s).1.chR = s.chR ∧
    (serveLockEnvelope s).1.target = s.target ∧ (serveLockEnvelope s).1.slopeRaw = s.slopeRaw ∧
    (serveLockEnvelope s).1.mlc = s.mlc ∧ (serveLockEnvelope s).1.spr = s.spr ∧ (serveLockEnvelope s).1.chd = s.chd ∧
    (serveLockEnvelope s).1.cst = s.cst ∧ (serveLockEnvelope s).1.load = s.load ∧ (serveLockEnvelope s).1.tqs = s.tqs ∧
    (serveLockEnvelope s).1.clp = s.clp ∧ (serveLockEnvelope s).1.freeUsed = s.freeUsed ∧
    (serveLockEnvelope s).1.pending = s.pending := by
  simp [serveLockEnvelope, accept]

@[simp] theorem serveSetCalOpen_frame (x : Nat) (s : State) :
    (serveSetCalOpen x s).1.now = s.now ∧ (serveSetCalOpen x s).1.eStop = s.eStop ∧ (serveSetCalOpen x s).1.trc = s.trc ∧
    (serveSetCalOpen x s).1.plt = s.plt ∧ (serveSetCalOpen x s).1.chL = s.chL ∧ (serveSetCalOpen x s).1.chR = s.chR ∧
    (serveSetCalOpen x s).1.target = s.target ∧ (serveSetCalOpen x s).1.slopeRaw = s.slopeRaw ∧
    (serveSetCalOpen x s).1.mlc = s.mlc ∧ (serveSetCalOpen x s).1.spr = s.spr ∧ (serveSetCalOpen x s).1.chd = s.chd ∧
    (serveSetCalOpen x s).1.load = s.load ∧ (serveSetCalOpen x s).1.tqs = s.tqs ∧
    (serveSetCalOpen x s).1.freeUsed = s.freeUsed ∧ (serveSetCalOpen x s).1.pending = s.pending ∧
    (serveSetCalOpen x s).1.clp.rx = s.clp.rx ∧ (serveSetCalOpen x s).1.clp.buffer = s.clp.buffer ∧
    (serveSetCalOpen x s).1.clp.slot = s.clp.slot ∧ (serveSetCalOpen x s).1.clp.tx = s.clp.tx ∧
    (serveSetCalOpen x s).1.clp.enabled = s.clp.enabled ∧ (serveSetCalOpen x s).1.clp.silent = s.clp.silent ∧
    (serveSetCalOpen x s).1.clp.silence = s.clp.silence ∧ (serveSetCalOpen x s).1.clp.telemetry = s.clp.telemetry ∧
    (serveSetCalOpen x s).1.clp.counters = s.clp.counters := by
  simp only [serveSetCalOpen, refuseLocked]
  (repeat' split) <;> simp [accept, refuse]

@[simp] theorem serveZeroSensor_frame (x : Nat) (v : Int) (s : State) :
    (serveZeroSensor x v s).1.now = s.now ∧ (serveZeroSensor x v s).1.eStop = s.eStop ∧
    (serveZeroSensor x v s).1.trc = s.trc ∧ (serveZeroSensor x v s).1.plt = s.plt ∧ (serveZeroSensor x v s).1.chL = s.chL ∧
    (serveZeroSensor x v s).1.chR = s.chR ∧ (serveZeroSensor x v s).1.target = s.target ∧
    (serveZeroSensor x v s).1.slopeRaw = s.slopeRaw ∧ (serveZeroSensor x v s).1.mlc = s.mlc ∧
    (serveZeroSensor x v s).1.spr = s.spr ∧ (serveZeroSensor x v s).1.chd = s.chd ∧ (serveZeroSensor x v s).1.cst = s.cst ∧
    (serveZeroSensor x v s).1.load = s.load ∧ (serveZeroSensor x v s).1.tqs = s.tqs ∧
    (serveZeroSensor x v s).1.clp = s.clp ∧ (serveZeroSensor x v s).1.freeUsed = s.freeUsed ∧
    (serveZeroSensor x v s).1.pending = s.pending := by
  simp only [serveZeroSensor]
  (repeat' split) <;> simp [accept, refuse]

@[simp] theorem serveSetReporting_frame (m : BitVec 16) (s : State) :
    (serveSetReporting m s).1.now = s.now ∧ (serveSetReporting m s).1.eStop = s.eStop ∧
    (serveSetReporting m s).1.trc = s.trc ∧ (serveSetReporting m s).1.plt = s.plt ∧ (serveSetReporting m s).1.chL = s.chL ∧
    (serveSetReporting m s).1.chR = s.chR ∧ (serveSetReporting m s).1.target = s.target ∧
    (serveSetReporting m s).1.slopeRaw = s.slopeRaw ∧ (serveSetReporting m s).1.mlc = s.mlc ∧
    (serveSetReporting m s).1.spr = s.spr ∧ (serveSetReporting m s).1.chd = s.chd ∧ (serveSetReporting m s).1.cst = s.cst ∧
    (serveSetReporting m s).1.load = s.load ∧ (serveSetReporting m s).1.tqs = s.tqs ∧
    (serveSetReporting m s).1.mpr = s.mpr ∧ (serveSetReporting m s).1.freeUsed = s.freeUsed ∧
    (serveSetReporting m s).1.pending = s.pending ∧ (serveSetReporting m s).1.clp.rx = s.clp.rx ∧
    (serveSetReporting m s).1.clp.buffer = s.clp.buffer ∧ (serveSetReporting m s).1.clp.slot = s.clp.slot ∧
    (serveSetReporting m s).1.clp.tx = s.clp.tx ∧ (serveSetReporting m s).1.clp.silent = s.clp.silent ∧
    (serveSetReporting m s).1.clp.silence = s.clp.silence ∧ (serveSetReporting m s).1.clp.telemetry = s.clp.telemetry ∧
    (serveSetReporting m s).1.clp.counters = s.clp.counters := by
  simp only [serveSetReporting]
  (repeat' split) <;> simp [accept, refuse]

@[simp] theorem serveRestart_frame (s : State) :
    (serveRestart s).1.now = s.now ∧ (serveRestart s).1.eStop = s.eStop ∧ (serveRestart s).1.trc = s.trc ∧
    (serveRestart s).1.target = s.target ∧ (serveRestart s).1.slopeRaw = s.slopeRaw ∧ (serveRestart s).1.mpr = s.mpr ∧
    (serveRestart s).1.freeUsed = s.freeUsed ∧ (serveRestart s).1.pending = s.pending ∧
    (serveRestart s).1.clp.rx = s.clp.rx ∧ (serveRestart s).1.clp.buffer = s.clp.buffer ∧
    (serveRestart s).1.clp.slot = s.clp.slot ∧ (serveRestart s).1.clp.tx = s.clp.tx ∧
    (serveRestart s).1.clp.enabled = s.clp.enabled ∧ (serveRestart s).1.clp.silent = s.clp.silent ∧
    (serveRestart s).1.clp.silence = s.clp.silence ∧ (serveRestart s).1.clp.telemetry = s.clp.telemetry ∧
    (serveRestart s).1.clp.counters = s.clp.counters := by
  simp [serveRestart, accept]

/-- What no request touches: the clock, the line, the queue, and of CLP the receiver, the buffer, the slot, the transmitter, the
silence and the counters. -/
theorem serve_frame (r : Request) (s : State) :
    (serve r s).1.now = s.now ∧ (serve r s).1.eStop = s.eStop ∧ (serve r s).1.slopeRaw = s.slopeRaw ∧
    (serve r s).1.freeUsed = s.freeUsed ∧ (serve r s).1.pending = s.pending ∧ (serve r s).1.clp.rx = s.clp.rx ∧
    (serve r s).1.clp.buffer = s.clp.buffer ∧ (serve r s).1.clp.slot = s.clp.slot ∧ (serve r s).1.clp.tx = s.clp.tx ∧
    (serve r s).1.clp.silent = s.clp.silent ∧ (serve r s).1.clp.counters = s.clp.counters := by
  cases r <;> simp [serve, refuse]

end Sys2Proof.Machine
end

