-- ==== Sys2Proof/Laws/Link.lean ====
section
/-! SUPPORT. Commands and the Control Link: every command answers a next state, a request row offers its request, a request
offered to a free link is answered at once. -/

namespace Sys2Proof.Machine

/-- Every command has its effect: no meaning stops. -/
theorem exec_next (i : Instr) (s : State) : ∃ t, exec i s = .next t := by
  cases i <;> exact ⟨_, rfl⟩

/-- A request row offers its request to the buffer (R191 step 3). -/
theorem exec_request {i : Instr} {q : Queued} (h : queuedOf i = some q) (s : State) :
    exec i s = .next (offerRequest q.tag q.req s) := by
  cases i <;> simp only [queuedOf, reduceCtorEq, Option.some.injEq] at h <;> subst h <;> rfl

/-- One step takes the front command, or the part acts by itself. -/
theorem step_cons (i : Instr) (rest : List Instr) (s : State) :
    step { s with pending := i :: rest } = exec i { s with pending := rest } := rfl

/-- A reply formed into an empty slot with nothing left in the buffer. -/
theorem reply_pumped (f : Frame) (t : State) (hb : t.clp.buffer = []) (hs : t.clp.slot = none) :
    takeNext (startTx { t with clp := { t.clp with slot := some f } }) = withReply f t := by
  rcases t with ⟨_, _, _, _, _, _, _, _, _, _, _, _, _, _, _, ⟨_, _, _, tx, _, _, _, _, _, _⟩, _, _⟩
  simp only at hb hs
  subst hb hs
  cases tx <;> rfl

/-- A request that finds the buffer and the slot empty is taken and answered in this event (R192, R193). -/
theorem offerRequest_free (tag : Byte) (r : Request) {s : State} (h : s.linkFree) :
    offerRequest tag r s = withReply (replyFrame ⟨tag, r⟩ (serve r s).2) (serve r s).1 := by
  obtain ⟨hs, hb⟩ := h
  have hf := serve_frame r s
  have hbuf : (serve r s).1.clp.buffer = [] := by rw [hf.2.2.2.2.2.2.1, hb]
  have hslot : (serve r s).1.clp.slot = none := by rw [hf.2.2.2.2.2.2.2.1, hs]
  rw [← reply_pumped _ _ hbuf hslot]
  rcases s with ⟨_, _, _, _, _, _, _, _, _, _, _, _, _, _, _, ⟨_, _, _, _, _, _, _, _, _, _⟩, _, _⟩
  simp only at hb hs
  subst hb hs
  rfl

/-- A request row that finds the buffer and the slot empty. -/
theorem exec_request_free {i : Instr} {q : Queued} (hq : queuedOf i = some q) {s : State} (h : s.linkFree) :
    exec i s = .next (withReply (replyFrame q (serve q.req s).2) (serve q.req s).1) := by
  rw [exec_request hq, offerRequest_free _ _ h]

/-- The choice of the transmitter touches the slot, the frame sent, the pending set and the counters of CLP alone (R193). -/
@[simp] theorem startTx_frame (s : State) :
    (startTx s).now = s.now ∧ (startTx s).eStop = s.eStop ∧ (startTx s).trc = s.trc ∧ (startTx s).plt = s.plt ∧
    (startTx s).chL = s.chL ∧ (startTx s).chR = s.chR ∧ (startTx s).target = s.target ∧
    (startTx s).slopeRaw = s.slopeRaw ∧ (startTx s).mlc = s.mlc ∧ (startTx s).spr = s.spr ∧ (startTx s).chd = s.chd ∧
    (startTx s).cst = s.cst ∧ (startTx s).load = s.load ∧ (startTx s).tqs = s.tqs ∧ (startTx s).mpr = s.mpr ∧
    (startTx s).freeUsed = s.freeUsed ∧ (startTx s).pending = s.pending ∧ (startTx s).clp.rx = s.clp.rx ∧
    (startTx s).clp.buffer = s.clp.buffer ∧ (startTx s).clp.enabled = s.clp.enabled ∧
    (startTx s).clp.silent = s.clp.silent ∧ (startTx s).clp.silence = s.clp.silence ∧
    (startTx s).clp.telemetry = s.clp.telemetry := by
  unfold startTx
  split <;> simp [sendReply, sendReport]

@[simp] theorem withReply_frame (f : Frame) (s : State) :
    (withReply f s).now = s.now ∧ (withReply f s).eStop = s.eStop ∧ (withReply f s).trc = s.trc ∧
    (withReply f s).plt = s.plt ∧ (withReply f s).chL = s.chL ∧ (withReply f s).chR = s.chR ∧
    (withReply f s).target = s.target ∧ (withReply f s).slopeRaw = s.slopeRaw ∧ (withReply f s).mlc = s.mlc ∧
    (withReply f s).spr = s.spr ∧ (withReply f s).chd = s.chd ∧ (withReply f s).cst = s.cst ∧
    (withReply f s).load = s.load ∧ (withReply f s).tqs = s.tqs ∧ (withReply f s).mpr = s.mpr ∧
    (withReply f s).freeUsed = s.freeUsed ∧ (withReply f s).pending = s.pending ∧
    (withReply f s).clp.waiting = s.clp.waiting ∧ (withReply f s).clp.buffer = s.clp.buffer := by
  unfold withReply
  split <;> simp

/-! ### What the transmitter can do (R193) -/

/-- A frame that is being sent is not interrupted. -/
theorem startTx_busy {s : State} {f : Frame} (h : s.clp.tx = some f) : startTx s = s := by simp [startTx, h]

/-- A waiting reply goes first. -/
theorem startTx_reply {s : State} {f : Frame} (h : s.clp.tx = none) (hs : s.clp.slot = some f) : startTx s = sendReply f s := by
  simp [startTx, h, hs]

/-- With no reply the pending kind of lowest number is sent. -/
theorem startTx_report {s : State} {k : ReportKind} (h : s.clp.tx = none) (hs : s.clp.slot = none)
    (hk : nextReport s.clp.waiting = some k) : startTx s = sendReport k s := by
  simp [startTx, h, hs, hk]

/-- No kind is next when none is pending. -/
theorem nextReport_none (w : BitVec 9) : nextReport w = none ↔ w = 0 := by
  revert w
  decide

/-- A transmitter that is IDLE after its choice had nothing to send, and nothing has changed. -/
theorem startTx_idle {s : State} (h : (startTx s).clp.tx = none) :
    s.clp.tx = none ∧ s.clp.slot = none ∧ s.clp.waiting = 0 ∧ startTx s = s := by
  cases ht : s.clp.tx with
  | some f => rw [startTx_busy ht, ht] at h; cases h
  | none =>
    cases hs : s.clp.slot with
    | some f => rw [startTx_reply ht hs] at h; cases h
    | none =>
      cases hk : nextReport s.clp.waiting with
      | some k => rw [startTx_report ht hs hk] at h; cases h
      | none => exact ⟨rfl, rfl, (nextReport_none _).1 hk, by simp [startTx, ht, hs, hk]⟩

/-- After its choice the transmitter has nothing further to choose. -/
@[simp] theorem startTx_settled (s : State) : startTx (startTx s) = startTx s := by
  cases h : (startTx s).clp.tx with
  | some f => exact startTx_busy h
  | none => rw [(startTx_idle h).2.2.2, (startTx_idle h).2.2.2]

/-- With a full slot or an empty buffer no request is taken (R192). -/
theorem takeNext_stays {s : State} (h : s.clp.slot ≠ none ∨ s.clp.buffer = []) : takeNext s = s := by
  unfold takeNext
  split
  · simp_all
  · rfl

/-- After a request has been looked for, the slot is empty only with nothing in the buffer (R192). -/
theorem takeNext_empty {s : State} (h : (takeNext s).clp.slot = none) : (takeNext s).clp.buffer = [] := by
  cases hs : s.clp.slot <;> cases hb : s.clp.buffer <;> simp_all [takeNext, takeRequest]

/-- Taking a request touches the frame that is being sent in no way (R192). -/
theorem takeNext_tx (s : State) : (takeNext s).clp.tx = s.clp.tx := by
  unfold takeNext takeRequest
  split
  · exact (serve_frame _ _).2.2.2.2.2.2.2.2.1
  · rfl

/-- A transmitter that is IDLE after CLP has pumped has nothing to send, and no request waits. -/
theorem pump_idle {s : State} (h : (pump s).clp.tx = none) : pump s = takeNext s ∧ (takeNext s).clp.slot = none ∧
    (takeNext s).clp.buffer = [] ∧ (takeNext s).clp.waiting = 0 ∧ (takeNext s).clp.tx = none := by
  unfold pump at h ⊢
  rw [takeNext_tx] at h
  obtain ⟨ht, hs, hw, he⟩ := startTx_idle h
  have hb := takeNext_empty hs
  exact ⟨by rw [he, takeNext_stays (.inr hb)], hs, hb, hw, ht⟩

/-- After CLP has pumped the transmitter has nothing further to choose. -/
@[simp] theorem pump_settled (s : State) : startTx (pump s) = pump s := by
  cases h : (pump s).clp.tx with
  | some f => exact startTx_busy h
  | none =>
    obtain ⟨he, hs, _, hw, ht⟩ := pump_idle h
    rw [he]
    simp [startTx, hs, ht, (nextReport_none _).2 hw]

/-- Every command but POWER_ON_RESET ends with the choice of the transmitter (R193, log entry 8). -/
theorem exec_startTx {i : Instr} (h : i ≠ .powerOnReset) (s : State) : ∃ t, exec i s = .next (startTx t) := by
  cases hq : queuedOf i with
  | some q => exact ⟨pump _, by rw [exec_request hq, pump_settled]; rfl⟩
  | none =>
    cases i <;> first
      | exact ⟨_, rfl⟩
      | exact absurd rfl h
      | exact ⟨pump _, by rw [pump_settled]; rfl⟩

end Sys2Proof.Machine
end

