-- ==== Sys2Proof/Laws/PerInstr.lean ====
section
/-! SUPPORT. Statements made per command: the request of a well-formed request row fits its payload and has a request kind. -/

namespace Sys2Proof.Laws.RequestFits

open Sys2Proof.Machine

/-- The request a well-formed request row stands for has fields that fit their widths and a kind below 0x80 (section 11.8). -/
def Statement (i : Instr) : Prop :=
  i.wf = true → ∀ q, queuedOf i = some q → q.req.fits = true ∧ q.req.kind.toNat < 0x80

theorem powerOnReset : Statement (.powerOnReset) := by
  intro _ q h
  simp [queuedOf] at h

theorem restart (tag : Byte) : Statement (.restart tag) := by
  intro w q h
  simp only [queuedOf, Option.some.injEq] at h
  subst h
  exact ⟨rfl, by simp [Request.kind]⟩

theorem eStopAsserted : Statement (.eStopAsserted) := by
  intro _ q h
  simp [queuedOf] at h

theorem eStopReleased : Statement (.eStopReleased) := by
  intro _ q h
  simp [queuedOf] at h

theorem qualifiedTravelPulse (forward : Bool) : Statement (.qualifiedTravelPulse forward) := by
  intro _ q h
  simp [queuedOf] at h

theorem qualifiedBeltPulse : Statement (.qualifiedBeltPulse) := by
  intro _ q h
  simp [queuedOf] at h

theorem pulseRejected (input : Encoder) (highUs : Nat) : Statement (.pulseRejected input highUs) := by
  intro _ q h
  simp [queuedOf] at h

theorem speedInterval : Statement (.speedInterval) := by
  intro _ q h
  simp [queuedOf] at h

theorem volumeStep : Statement (.volumeStep) := by
  intro _ q h
  simp [queuedOf] at h

theorem beltStep : Statement (.beltStep) := by
  intro _ q h
  simp [queuedOf] at h

theorem loopCycle (side : Side) (plate leg slope : Nat) : Statement (.loopCycle side plate leg slope) := by
  intro _ q h
  simp [queuedOf] at h

theorem jogExpiry (side : Side) : Statement (.jogExpiry side) := by
  intro _ q h
  simp [queuedOf] at h

theorem spliceStep : Statement (.spliceStep) := by
  intro _ q h
  simp [queuedOf] at h

theorem spliceFinalStep : Statement (.spliceFinalStep) := by
  intro _ q h
  simp [queuedOf] at h

theorem scanTrigger (c : Int) : Statement (.scanTrigger c) := by
  intro _ q h
  simp [queuedOf] at h

theorem idleTrigger : Statement (.idleTrigger) := by
  intro _ q h
  simp [queuedOf] at h

theorem lineArrival (bytes : List Byte) : Statement (.lineArrival bytes) := by
  intro _ q h
  simp [queuedOf] at h

theorem scannerFrameGap : Statement (.scannerFrameGap) := by
  intro _ q h
  simp [queuedOf] at h

theorem lineTimeout : Statement (.lineTimeout) := by
  intro _ q h
  simp [queuedOf] at h

theorem lineCompletion : Statement (.lineCompletion) := by
  intro _ q h
  simp [queuedOf] at h

theorem validFrame (bytes : List Byte) : Statement (.validFrame bytes) := by
  intro _ q h
  simp [queuedOf] at h

theorem gapDiscard : Statement (.gapDiscard) := by
  intro _ q h
  simp [queuedOf] at h

theorem transmitEnd : Statement (.transmitEnd) := by
  intro _ q h
  simp [queuedOf] at h

theorem linkSilence : Statement (.linkSilence) := by
  intro _ q h
  simp [queuedOf] at h

theorem telemetryPeriod : Statement (.telemetryPeriod) := by
  intro _ q h
  simp [queuedOf] at h

theorem unknownKind (tag kind : Byte) : Statement (.unknownKind tag kind) := by
  intro w q h
  simp only [queuedOf, Option.some.injEq] at h
  subst h
  simp_all [Instr.wf, Request.fits, Request.kind, namesNoRequest]

theorem setDatum (tag : Byte) (c : Int) : Statement (.setDatum tag c) := by
  intro w q h
  simp only [queuedOf, Option.some.injEq] at h
  subst h
  exact ⟨w, by simp [Request.kind]⟩

theorem stageSegments (tag : Byte) (segs : List Segment) : Statement (.stageSegments tag segs) := by
  intro w q h
  simp only [queuedOf, Option.some.injEq] at h
  subst h
  exact ⟨w, by simp [Request.kind]⟩

theorem stageClear (tag : Byte) : Statement (.stageClear tag) := by
  intro w q h
  simp only [queuedOf, Option.some.injEq] at h
  subst h
  exact ⟨rfl, by simp [Request.kind]⟩

theorem splice (tag : Byte) (a b : Int) : Statement (.splice tag a b) := by
  intro w q h
  simp only [queuedOf, Option.some.injEq] at h
  subst h
  exact ⟨w, by simp [Request.kind]⟩

theorem spliceResume (tag : Byte) : Statement (.spliceResume tag) := by
  intro w q h
  simp only [queuedOf, Option.some.injEq] at h
  subst h
  exact ⟨rfl, by simp [Request.kind]⟩

theorem spliceAbort (tag : Byte) : Statement (.spliceAbort tag) := by
  intro w q h
  simp only [queuedOf, Option.some.injEq] at h
  subst h
  exact ⟨rfl, by simp [Request.kind]⟩

theorem planClear (tag : Byte) : Statement (.planClear tag) := by
  intro w q h
  simp only [queuedOf, Option.some.injEq] at h
  subst h
  exact ⟨rfl, by simp [Request.kind]⟩

theorem getPlan (tag : Byte) (first count : Nat) : Statement (.getPlan tag first count) := by
  intro w q h
  simp only [queuedOf, Option.some.injEq] at h
  subst h
  exact ⟨w, by simp [Request.kind]⟩

theorem addMarker (tag : Byte) (m : Int) (lead trail : Nat) : Statement (.addMarker tag m lead trail) := by
  intro w q h
  simp only [queuedOf, Option.some.injEq] at h
  subst h
  exact ⟨w, by simp [Request.kind]⟩

theorem removeMarker (tag : Byte) (id : Nat) : Statement (.removeMarker tag id) := by
  intro w q h
  simp only [queuedOf, Option.some.injEq] at h
  subst h
  exact ⟨w, by simp [Request.kind]⟩

theorem getMarkers (tag : Byte) (first count : Nat) : Statement (.getMarkers tag first count) := by
  intro w q h
  simp only [queuedOf, Option.some.injEq] at h
  subst h
  exact ⟨w, by simp [Request.kind]⟩

theorem lift (tag : Byte) : Statement (.lift tag) := by
  intro w q h
  simp only [queuedOf, Option.some.injEq] at h
  subst h
  exact ⟨rfl, by simp [Request.kind]⟩

theorem returnDrum (tag : Byte) : Statement (.returnDrum tag) := by
  intro w q h
  simp only [queuedOf, Option.some.injEq] at h
  subst h
  exact ⟨rfl, by simp [Request.kind]⟩

theorem selectTarget (tag : Byte) (source : Nat) : Statement (.selectTarget tag source) := by
  intro w q h
  simp only [queuedOf, Option.some.injEq] at h
  subst h
  exact ⟨w, by simp [Request.kind]⟩

theorem setPoint (tag : Byte) (side mode : Nat) (depth slope : Int) : Statement (.setPoint tag side mode depth slope) := by
  intro w q h
  simp only [queuedOf, Option.some.injEq] at h
  subst h
  exact ⟨w, by simp [Request.kind]⟩

theorem setTrim (tag : Byte) (side : Nat) (trim : Int) : Statement (.setTrim tag side trim) := by
  intro w q h
  simp only [queuedOf, Option.some.injEq] at h
  subst h
  exact ⟨w, by simp [Request.kind]⟩

theorem engage (tag : Byte) (side : Nat) : Statement (.engage tag side) := by
  intro w q h
  simp only [queuedOf, Option.some.injEq] at h
  subst h
  exact ⟨w, by simp [Request.kind]⟩

theorem disengage (tag : Byte) (side : Nat) : Statement (.disengage tag side) := by
  intro w q h
  simp only [queuedOf, Option.some.injEq] at h
  subst h
  exact ⟨w, by simp [Request.kind]⟩

theorem jog (tag : Byte) (side : Nat) (valve : Int) (duration : Nat) : Statement (.jog tag side valve duration) := by
  intro w q h
  simp only [queuedOf, Option.some.injEq] at h
  subst h
  exact ⟨w, by simp [Request.kind]⟩

theorem scanEnableOn (tag : Byte) : Statement (.scanEnableOn tag) := by
  intro w q h
  simp only [queuedOf, Option.some.injEq] at h
  subst h
  exact ⟨rfl, by simp [Request.kind]⟩

theorem scanEnableOff (tag : Byte) : Statement (.scanEnableOff tag) := by
  intro w q h
  simp only [queuedOf, Option.some.injEq] at h
  subst h
  exact ⟨rfl, by simp [Request.kind]⟩

theorem setCellMask (tag : Byte) (cells : BitVec 16) : Statement (.setCellMask tag cells) := by
  intro w q h
  simp only [queuedOf, Option.some.injEq] at h
  subst h
  exact ⟨rfl, by simp [Request.kind]⟩

theorem getProfile (tag : Byte) : Statement (.getProfile tag) := by
  intro w q h
  simp only [queuedOf, Option.some.injEq] at h
  subst h
  exact ⟨rfl, by simp [Request.kind]⟩

theorem takeReference (tag : Byte) : Statement (.takeReference tag) := by
  intro w q h
  simp only [queuedOf, Option.some.injEq] at h
  subst h
  exact ⟨rfl, by simp [Request.kind]⟩

theorem clearFlags (tag : Byte) (flags : BitVec 16) : Statement (.clearFlags tag flags) := by
  intro w q h
  simp only [queuedOf, Option.some.injEq] at h
  subst h
  exact ⟨rfl, by simp [Request.kind]⟩

theorem armFault (tag : Byte) (arm : Nat) : Statement (.armFault tag arm) := by
  intro w q h
  simp only [queuedOf, Option.some.injEq] at h
  subst h
  exact ⟨w, by simp [Request.kind]⟩

theorem getFault (tag : Byte) : Statement (.getFault tag) := by
  intro w q h
  simp only [queuedOf, Option.some.injEq] at h
  subst h
  exact ⟨rfl, by simp [Request.kind]⟩

theorem countersReset (tag : Byte) : Statement (.countersReset tag) := by
  intro w q h
  simp only [queuedOf, Option.some.injEq] at h
  subst h
  exact ⟨rfl, by simp [Request.kind]⟩

theorem getLoading (tag : Byte) (first count : Nat) : Statement (.getLoading tag first count) := by
  intro w q h
  simp only [queuedOf, Option.some.injEq] at h
  subst h
  exact ⟨w, by simp [Request.kind]⟩

theorem truckAdd (tag : Byte) (id target : Nat) : Statement (.truckAdd tag id target) := by
  intro w q h
  simp only [queuedOf, Option.some.injEq] at h
  subst h
  exact ⟨w, by simp [Request.kind]⟩

theorem truckInPosition (tag : Byte) (id : Nat) : Statement (.truckInPosition tag id) := by
  intro w q h
  simp only [queuedOf, Option.some.injEq] at h
  subst h
  exact ⟨w, by simp [Request.kind]⟩

theorem truckAway (tag : Byte) (id : Nat) : Statement (.truckAway tag id) := by
  intro w q h
  simp only [queuedOf, Option.some.injEq] at h
  subst h
  exact ⟨w, by simp [Request.kind]⟩

theorem truckRemove (tag : Byte) (id : Nat) : Statement (.truckRemove tag id) := by
  intro w q h
  simp only [queuedOf, Option.some.injEq] at h
  subst h
  exact ⟨w, by simp [Request.kind]⟩

theorem conveyorStart (tag : Byte) : Statement (.conveyorStart tag) := by
  intro w q h
  simp only [queuedOf, Option.some.injEq] at h
  subst h
  exact ⟨rfl, by simp [Request.kind]⟩

theorem conveyorStop (tag : Byte) : Statement (.conveyorStop tag) := by
  intro w q h
  simp only [queuedOf, Option.some.injEq] at h
  subst h
  exact ⟨rfl, by simp [Request.kind]⟩

theorem setParam (tag : Byte) (item : Nat) (value : Int) : Statement (.setParam tag item value) := by
  intro w q h
  simp only [queuedOf, Option.some.injEq] at h
  subst h
  exact ⟨w, by simp [Request.kind]⟩

theorem getParam (tag : Byte) (item : Nat) : Statement (.getParam tag item) := by
  intro w q h
  simp only [queuedOf, Option.some.injEq] at h
  subst h
  exact ⟨w, by simp [Request.kind]⟩

theorem lockEnvelope (tag : Byte) : Statement (.lockEnvelope tag) := by
  intro w q h
  simp only [queuedOf, Option.some.injEq] at h
  subst h
  exact ⟨rfl, by simp [Request.kind]⟩

theorem setCalOpen (tag : Byte) (arg : Nat) : Statement (.setCalOpen tag arg) := by
  intro w q h
  simp only [queuedOf, Option.some.injEq] at h
  subst h
  exact ⟨w, by simp [Request.kind]⟩

theorem zeroSensor (tag : Byte) (sensor : Nat) (known : Int) : Statement (.zeroSensor tag sensor known) := by
  intro w q h
  simp only [queuedOf, Option.some.injEq] at h
  subst h
  exact ⟨w, by simp [Request.kind]⟩

theorem identify (tag : Byte) : Statement (.identify tag) := by
  intro w q h
  simp only [queuedOf, Option.some.injEq] at h
  subst h
  exact ⟨rfl, by simp [Request.kind]⟩

theorem getStatus (tag : Byte) (part : Nat) : Statement (.getStatus tag part) := by
  intro w q h
  simp only [queuedOf, Option.some.injEq] at h
  subst h
  exact ⟨w, by simp [Request.kind]⟩

theorem setReporting (tag : Byte) (kinds : BitVec 16) : Statement (.setReporting tag kinds) := by
  intro w q h
  simp only [queuedOf, Option.some.injEq] at h
  subst h
  exact ⟨rfl, by simp [Request.kind]⟩

theorem risingEdge (input : Encoder) : Statement (.risingEdge input) := by
  intro _ q h
  simp [queuedOf] at h

theorem frameStart : Statement (.frameStart) := by
  intro _ q h
  simp [queuedOf] at h

theorem frameLengthError (len : Byte) : Statement (.frameLengthError len) := by
  intro _ q h
  simp [queuedOf] at h

end Sys2Proof.Laws.RequestFits
end

