-- ==== Sys2Proof/Tests/Slice0.lean ====
section
/-! SUPPORT. Tests: the well-formedness checks refuse what does not fit, the manual's worked examples, and for each statement with
hypotheses a state and operands that meet them. Expected values are the manual's. -/

namespace Sys2Proof.Tests

open Sys2Proof.Machine

/-! ### Small states -/

/-- The items of the worked examples: W 2200, Dd 1600, Ds 7000, Lb 10,000, C_b 20,000, travel ppm 750, belt bppm 400. -/
def items : Geometry := ⟨some 2200, some 1600, some 7000, some 10000, some 20000, some 750, some 400⟩

def setGeo (g : Geometry) (s : State) : State :=
  { s with mpr := { s.mpr with params := { s.mpr.params with geo := g } } }

def setTun (f : Tuning → Tuning) (s : State) : State :=
  { s with mpr := { s.mpr with params := { s.mpr.params with tun := f s.tun } } }

def setEnv (f : Envelope → Envelope) (s : State) : State :=
  { s with mpr := { s.mpr with params := { s.mpr.params with env := f s.env } } }

def setTunL (t : ChannelTuning) (s : State) : State :=
  { s with mpr := { s.mpr with params := { s.mpr.params with tunL := t } } }

def setTrc (f : Trc → Trc) (s : State) : State := { s with trc := f s.trc }

def setPlt (f : Plt → Plt) (s : State) : State := { s with plt := f s.plt }

def setMlc (f : Mlc → Mlc) (s : State) : State := { s with mlc := f s.mlc }

def setSpr (f : Spr → Spr) (s : State) : State := { s with spr := f s.spr }

def setChd (f : Chd → Chd) (s : State) : State := { s with chd := f s.chd }

def setTqs (f : Tqs → Tqs) (s : State) : State := { s with tqs := f s.tqs }

def setClp (f : Clp → Clp) (s : State) : State := { s with clp := f s.clp }

def setLoad (f : Load → Load) (s : State) : State := { s with load := f s.load }

/-- The part at power-on with every geometry item set. -/
def fitted : State := setGeo items State.reset

/-- A channel in a state. -/
def chan (x : ChannelState) : Channel := { Channel.initial with state := x }

/-- The left channel replaced. -/
def leftOf (c : Channel) (s : State) : State := { s with chL := c }

/-! ### Well-formedness -/

theorem test_wf_count : (Instr.loopCycle .L 4096 0 0).wf = false := by decide
theorem test_wf_trigger : (Instr.scanTrigger 1000000001).wf = false := by decide
theorem test_wf_unknownKind_named : (Instr.unknownKind 0 0x70).wf = false := by decide
theorem test_wf_unknownKind_high : (Instr.unknownKind 0 0x80).wf = false := by decide
theorem test_wf_signed32 : (Instr.setDatum 0 2147483648).wf = false := by decide
theorem test_wf_segments_number : (Instr.stageSegments 0 (List.replicate 9 ⟨0, 100, 0, 0, 0, 0, true, true, true⟩)).wf = false := by
  decide
theorem test_wf_segment_length : (Instr.stageSegments 0 [⟨0, -1, 0, 0, 0, 0, true, true, true⟩]).wf = false := by decide
theorem test_wf_segment_start : (Instr.stageSegments 0 [⟨-2147483649, 1, 0, 0, 0, 0, true, true, true⟩]).wf = false := by decide
theorem test_wf_segment_depth : (Instr.stageSegments 0 [⟨0, 1, 0, 0, 0, 32768, true, true, true⟩]).wf = false := by decide
theorem test_wf_splice : (Instr.splice 0 0 2147483648).wf = false := by decide
theorem test_wf_marker : (Instr.addMarker 0 0 65536 0).wf = false ∧ (Instr.removeMarker 0 256).wf = false := by decide
theorem test_wf_byte :
    (Instr.getPlan 0 256 0).wf = false ∧ (Instr.getMarkers 0 0 256).wf = false ∧ (Instr.getLoading 0 256 0).wf = false ∧
    (Instr.selectTarget 0 256).wf = false ∧ (Instr.engage 0 256).wf = false ∧ (Instr.disengage 0 256).wf = false ∧
    (Instr.armFault 0 256).wf = false ∧ (Instr.getParam 0 256).wf = false ∧ (Instr.setCalOpen 0 256).wf = false ∧
    (Instr.getStatus 0 256).wf = false := by decide
theorem test_wf_word :
    (Instr.truckAdd 0 65536 0).wf = false ∧ (Instr.truckInPosition 0 65536).wf = false ∧
    (Instr.truckAway 0 65536).wf = false ∧ (Instr.truckRemove 0 65536).wf = false := by decide
theorem test_wf_signed16 :
    (Instr.setPoint 0 0 0 32768 0).wf = false ∧ (Instr.setTrim 0 0 (-32769)).wf = false ∧
    (Instr.jog 0 0 32768 10).wf = false ∧ (Instr.jog 0 0 0 65536).wf = false := by decide
theorem test_wf_item : (Instr.setParam 0 256 0).wf = false ∧ (Instr.zeroSensor 0 0 2147483648).wf = false := by decide
theorem test_wf_length : (Instr.frameLengthError 248).wf = false := by decide

/-! ### The link -/

set_option maxRecDepth 20000 in
/-- The catalogued check value of this code (polynomial 0x1021 from 0xFFFF) over the digits 1 to 9. -/
theorem test_crc : crcOf [0x31, 0x32, 0x33, 0x34, 0x35, 0x36, 0x37, 0x38, 0x39] = 0x29B1 := by decide

set_option maxRecDepth 20000 in
/-- The IDENTIFY request with tag 7 of section 11.8. -/
theorem test_identify_frame : Frame.wire ⟨0x70, 7, []⟩ = [0x5A, 0x00, 0x70, 0x07, 0xB4, 0x22] := by decide

set_option maxRecDepth 20000 in
/-- Every request is read back from its kind and payload (section 11.8). -/
theorem test_requests_read :
    ∀ r ∈ ([.setDatum (-5), .stageSegments [⟨-1, 70000, 1, 2, 3, 400, true, false, true⟩, ⟨100000, 70000, 1, 2, 3, 4, false, true, false⟩],
      .stageClear, .splice (-3) 400000, .spliceResume, .spliceAbort, .planClear, .getPlan 3 200, .addMarker (-77777) 300 20000,
      .removeMarker 200, .getMarkers 15 8, .lift, .returnDrum, .selectTarget 200, .setPoint 1 2 (-3) 3000, .setTrim 1 (-200),
      .engage 2, .disengage 1, .jog 1 (-1000) 1000, .scanEnable 1, .setCellMask 0x1234, .getProfile] : List Request),
      Request.parse r.kind r.payload = r := by decide
set_option maxRecDepth 20000 in
theorem test_more_requests_read :
    ∀ r ∈ ([.takeReference, .clearFlags 0x1FFF, .armFault 1, .getFault, .countersReset, .getLoading 3 4, .truckAdd 60000 40000,
      .truckInPosition 300, .truckAway 301, .truckRemove 302, .conveyorStart, .conveyorStop, .setParam 91 (-10000), .getParam 90,
      .lockEnvelope, .setCalOpen 1, .zeroSensor 4 (-1000), .identify, .getStatus 4, .setReporting 0x1FF, .restart,
      .unknown 5] : List Request), Request.parse r.kind r.payload = r := by decide

/-- No row of the table has bits. -/
theorem test_no_word : decodeTableWord 8 1 = none := rfl

/-- The exchange of section 11.7, from the end of the long reply: the waiting reply is sent and the oldest request taken. -/
def busyLink : State :=
  setClp (fun c => { c with
    tx := some ⟨0xAA, 20, []⟩, slot := some ⟨0xB2, 21, []⟩, buffer := [⟨22, .lift⟩, ⟨23, .lift⟩] }) State.reset
theorem test_transmit_end :
    (transmitEnd busyLink).clp.tx = some ⟨0xB2, 21, []⟩ ∧ (transmitEnd busyLink).clp.slot = some ⟨0x9B, 22, [0x13]⟩ ∧
    (transmitEnd busyLink).clp.buffer = [⟨23, .lift⟩] := by decide
theorem test_buffer_full : (offerRequest 24 .lift busyLink).clp.counters.dropped = 1 := by decide

/-- An IDLE transmitter begins the STATE report in the event that queues it, and a busy one does not (R193). -/
theorem test_idle_chooses :
    (startTx (assertEStop (setClp (fun c => { c with waiting := 0 }) (setMlc (fun m => { m with causes := ⟨true, false, false⟩ })
      State.reset)))).clp.tx.map (·.kind) = some 0xE0 ∧
    (startTx (assertEStop busyLink)).clp.tx = busyLink.clp.tx := by decide

/-- The SLOW and STOP lines at power-on and under each permit (R175). -/
theorem test_lines :
    ((State.base false 0 []).slowLine, (State.base false 0 []).stopLine) = (true, true) ∧
    (State.reset.slowLine, State.reset.stopLine) = (true, false) ∧
    ((setTqs (fun q => { q with permit := .go }) State.reset).slowLine,
      (setTqs (fun q => { q with permit := .go }) State.reset).stopLine) = (false, false) := by decide

/-! ### Worked examples -/

/-- Worked chainage and speed (sections 1.4 and 1.5). -/
theorem test_chainage :
    ([9000, 1, 2, 3, -7] : List Int).map (fun p => (setTrc (fun t => { t with datum := 120000, pulses := p }) fitted).chainage) =
      [132000, 120001, 120002, 120004, 119991] := by decide
theorem test_speeds :
    intervalSpeed 20 (some 750) = 266 ∧ intervalSpeed (-20) (some 750) = -266 ∧ intervalSpeed 1 (some 750) = 13 ∧
    intervalSpeed 110 (some 400) = 2750 ∧ intervalSpeed 3 (some 400) = 75 := by decide

/-- Worked plan depths (section 2.3). -/
def patch : Segment := ⟨352000, 25000, 600, 950, 700, 620, true, true, true⟩
theorem test_plan_depths :
    ([352000, 352040, 352072, 364500, 376999] : List Int).map (fun c => (Segment.leftAt patch c, Segment.rightAt patch c)) =
      [(600, 700), (600, 700), (601, 700), (775, 660), (949, 621)] := by decide

/-- Worked trim (section 2.6). -/
theorem test_trim_of_segment :
    removeCoverage 230000 250000 [⟨240000, 30000, 1100, 1000, 0, 0, true, true, true⟩] =
      [⟨250000, 20000, 1067, 1000, 0, 0, true, true, true⟩] := by decide

/-- Worked scaling (section 3.3). -/
theorem test_scaling :
    scaleSensor ⟨0, 4000⟩ (-3000) 5000 1306 = some 912 ∧ scaleSensor ⟨8000, 6000⟩ 0 65535 2606 = some 12226 ∧
    scaleSensor ⟨-200, 6000⟩ (-3000) 5000 2048 = some 2800 ∧ scaleSensor ⟨-200, 6000⟩ (-3000) 5000 650 = some (-272) ∧
    scaleSensor ⟨0, 2000⟩ (-1000) 1000 600 = none := by decide

/-- Worked valve commands (section 3.8). -/
theorem test_valve :
    ([4, 6, 37, -250, 400] : List Int).map (valveOf ⟨48, 5, 120, 20, 8, 4⟩ 800) =
      [(0, false), (120, false), (120, false), (-735, false), (800, true)] ∧
    valveOf ⟨5, 5, 120, 20, 8, 4⟩ 800 8 = (0, false) := by decide

/-- The worked cycle in AUTO (section 3.11). -/
def cycleStart : State :=
  let s := setTunL ⟨32, 3, 0, 20, 8, 4⟩ fitted
  let s := { s with mpr := { s.mpr with params := { s.mpr.params with
    cal := { s.cal with plateL := ⟨0, 4000⟩, legL := ⟨8000, 6000⟩, offsetL := 150 } } } }
  let s := setPlt (fun p => { p with plan := [⟨120000, 40000, 800, 1200, 0, 0, true, true, true⟩] }) s
  let s := setSpr (fun p => { p with skiL := some ⟨11480, 0⟩ }) s
  let s := setTrc (fun t => { t with datum := 128523 }) s
  leftOf { chan .auto with trim := 20, dCmd := 915, grade := 4 } { s with target := .plan }
theorem test_loop_cycle :
    let c := (loopCycle .L 1306 2606 2048 cycleStart).chL
    (c.dMeas, c.goal, c.heldGoal, c.dCmd, c.valve, c.grade) = (906, some 921, 921, 920, 22, 5) := by decide

/-- Worked slope (section 3.7). -/
theorem test_slope :
    State.slopeError { fitted with chR := { chan .auto with mode := .slope, slopeSet := 250, slope := some 231 } } .R = some 41 ∧
    valveOf ⟨32, 3, 0, 20, 8, 4⟩ 1000 41 = (76, false) := by decide

/-- Worked cell reduction (section 5.6). -/
theorem test_cells :
    (reduceCell 20 false [⟨11484, 120⟩, ⟨11480, 118⟩, ⟨11490, 15⟩, ⟨0, 0⟩]).signature = some 11482 ∧
    (reduceCell 20 false [⟨11470, 96⟩, ⟨11478, 101⟩, ⟨11485, 99⟩, ⟨11481, 88⟩]).signature = some 11478 ∧
    (reduceCell 20 false [⟨0, 0⟩, ⟨11472, 77⟩, ⟨65535, 0⟩, ⟨0, 0⟩]).signature = none := by decide

/-- Worked fouled judgements, lines B and C (section 5.8). -/
def cellsOf (sigs : List Nat) : List Cell := sigs.map (fun g => ⟨some g, 4, false, false⟩)
theorem test_fouled :
    judgedFouled Tuning.initial (cellsOf (List.replicate 11 1860 ++ [11500, 11500])) = false ∧
    judgedFouled Tuning.initial (cellsOf (List.replicate 12 1860 ++ [2000])) = true := by decide

/-- Worked cell counting, cells 6 and 7 (section 6.5). -/
theorem test_difference_counts :
    differenceCount 20 60 11476 [⟨11474, 99⟩, ⟨11471, 99⟩, ⟨11362, 99⟩, ⟨11358, 99⟩] = 2 ∧
    differenceCount 20 60 11481 [⟨11365, 99⟩, ⟨11360, 99⟩, ⟨11358, 99⟩, ⟨11366, 99⟩] = 4 := by decide

/-- Worked metering (section 8.2). -/
theorem test_metering :
    parcelVolume 1000 1000 2200 125 = 27500 ∧ parcelVolume (-120) 430 2200 125 = 5912 ∧ parcelVolume 3 0 2200 125 = 41 ∧
    parcelVolume (-480) (-500) 2200 125 = 0 := by decide

/-- Worked merging into a full list (section 8.4). -/
theorem test_merge :
    placeParcel 27500 (List.replicate 31 ⟨1, 900⟩ ++ [⟨27500, 60⟩]) = (List.replicate 31 ⟨1, 900⟩ ++ [⟨55000, 60⟩], true) := by
  decide

/-- Worked discharge and split (section 8.5). -/
def discharging : State :=
  setTqs (fun q => { q with
    conveyor := .topping, trucks := [⟨1, 20000, 19980000, .loading⟩, ⟨2, 18000, 0, .waiting⟩] })
    (setLoad (fun l => { l with
      vc := 52410000, vd := 51980000, vw := 320000
      parcels := [⟨27500, 9990⟩, ⟨27500, 6500⟩, ⟨27500, 3000⟩, ⟨27500, 20⟩] }) fitted)
theorem test_discharge :
    let t := beltStep discharging
    t.load.parcels = [⟨7500, 10000⟩, ⟨27500, 6510⟩, ⟨27500, 3010⟩, ⟨27500, 30⟩] ∧ t.load.vd = 52000000 ∧
    t.tqs.conveyor = .hold ∧ t.beltContent = 90000 := by decide
theorem test_spill :
    let t := beltStep (beltStep discharging)
    t.load.vs = 7500 ∧ t.beltContent = 82500 ∧ t.flagSet .spill = true := by decide
theorem test_restart_discards : (warmRestart (beltStep (beltStep discharging))).load.vx = 82500 := by decide

/-- Worked belt speeds (section 9.4). -/
theorem test_run_command :
    ([(27500, 200), (27500, 120), (5912, 266), (27500, 400), (27500, -120)] : List (Nat × Int)).map
      (fun x => (setTrc (fun t => { t with advance := x.2 }) (setLoad (fun l => { l with lastParcel := x.1 })
        (setEnv (fun e => { e with vbMax := 5000 }) (setTun (fun t => { t with vbMin := 800 }) fitted)))).runCommand) =
      [2750, 1650, 800, 5000, 800] := by decide

/-- Worked zeroing (section 10.5). -/
theorem test_zeroing : 950 - rawScaled 1306 4000 = 38 ∧ 0 - rawScaled 2000 2000 = -964 := by decide

/-! ### Witnesses: states and operands that meet the hypotheses of the statements, clause by clause -/

/-- The reset state has a free link. -/
theorem reset_linkFree : State.reset.linkFree := ⟨rfl, rfl⟩

/-- So has the part with its items set. -/
theorem fitted_linkFree : fitted.linkFree := ⟨rfl, rfl⟩

/-- The two ends of a step with an empty queue: something is due, and nothing is. -/
theorem witness_StepOnEmptyQueue :
    State.reset.pending = [] ∧ dueEvent State.reset = some .transmitEnd ∧
    (setClp (fun c => { c with waiting := 0 }) State.reset).pending = [] ∧
    dueEvent (setClp (fun c => { c with waiting := 0 }) State.reset) = none := by decide

theorem witness_WarmRestartEvent : State.reset.linkFree := ⟨rfl, rfl⟩

def stopped : State := { fitted with eStop := true }
theorem witness_EStopLine :
    (leftOf (chan .auto) (setMlc (fun m => { m with causes := ⟨true, false, false⟩ }) fitted)).mlc.causes ≠
      ⟨false, false, false⟩ ∧ fitted.clp.enabled.getLsbD 0 = true ∧ fitted.tqs.permit ≠ .stop ∧
    fitted.clp.enabled.getLsbD 4 = true := by decide
theorem witness_EStopRefusals :
    (stopped.clp.slot = none ∧ stopped.clp.buffer = []) ∧ stopped.eStop = true ∧ (2 : Nat) ≤ 2 ∧ (1 : Nat) ≤ 1 ∧
    (10 : Nat) ≤ 10 ∧ (1000 : Nat) ≤ 1000 ∧ stopped.chL.state ≠ .auto ∧ stopped.chR.state ≠ .auto := by decide

theorem witness_QualifiersAndBelt :
    (setTrc (fun t => { t with highTravel := some 1, highBelt := some 128 }) fitted).trc.highTravel = some 1 ∧
    (setTrc (fun t => { t with highTravel := some 1, highBelt := some 128 }) fitted).trc.highBelt = some 128 ∧
    State.reset.geo.bppm = none ∧ (setTrc (fun t => { t with pb := 9223372036854775807 }) fitted).trc.pb = 9223372036854775807 ∧
    fitted.geo.bppm = some 400 ∧ fitted.trc.pb ≠ 9223372036854775807 := by decide

def atLimit (x : Int) : State := setTrc (fun t => { t with datum := x, hw := x, nextVolume := x + 1, nextScan := x + 1 }) fitted
theorem witness_TravelPulse_discarded : State.reset.geo.ppm = none := by decide
theorem witness_TravelPulse_withheld :
    fitted.geo.ppm = some 750 ∧ (atLimit 1000000000).chainage = (if true then 1000000000 else -1000000000) ∧
    (atLimit (-1000000000)).chainage = (if false then 1000000000 else -1000000000) := by decide
theorem witness_TravelPulse_counted :
    fitted.geo.ppm = some 750 ∧ (atLimit 999999999).chainage ≠ (if true then 1000000000 else -1000000000) ∧
    chainageOk ((atLimit 999999999).trc.datum + Int.tdiv (((atLimit 999999999).trc.pulses + 1) * 1000) 750) = true ∧
    chainageOk ((atLimit 999999999).trc.datum + Int.tdiv (((atLimit 999999999).trc.pulses + 1) * 1000) 100) = false := by decide

/-- One pulse from the boundaries at 100 mm, and one pulse that reaches them. -/
def nearBoundary (p : Int) : State := setTrc (fun t => { t with pulses := p, hw := 99 }) fitted
theorem witness_NewGroundIssues_below :
    0 < (nearBoundary 70).tun.scanPitch ∧ (nearBoundary 70).trc.hw < (nearBoundary 70).trc.nextVolume ∧
    (nearBoundary 70).trc.hw < (nearBoundary 70).trc.nextScan ∧
    (travelPulse true (nearBoundary 70)).trc.hw < (nearBoundary 70).trc.nextScan := by decide
theorem witness_NewGroundIssues_reached :
    0 < (nearBoundary 74).tun.scanPitch ∧ (nearBoundary 74).trc.hw < (nearBoundary 74).trc.nextVolume ∧
    (nearBoundary 74).trc.hw < (nearBoundary 74).trc.nextScan ∧
    (nearBoundary 74).trc.volumeDue < (travelPulse true (nearBoundary 74)).trc.volumeDue ∧
    (nearBoundary 74).trc.nextScan ≤ (travelPulse true (nearBoundary 74)).trc.hw := by decide
theorem witness_NewGroundIssues_next : exec (.qualifiedTravelPulse true) (nearBoundary 74) =
    .next (startTx (travelPulse true (nearBoundary 74))) := rfl

def conveying (x : Conveyor) (stall belt : Nat) : State :=
  setTrc (fun t => { t with beltInterval := belt }) (setTqs (fun q => { q with
    conveyor := x, stall := stall, trucks := [⟨1, 20000, 0, .loading⟩] }) fitted)
theorem witness_SpeedIntervalEnd :
    (conveying .hold 0 0).tqs.conveyor ≠ .running ∧ (conveying .hold 0 0).tqs.conveyor ≠ .topping ∧
    (speedInterval (conveying .running 0 1)).trc.beltSpeed ≠ 0 ∧
    (speedInterval (conveying .running 18 0)).trc.beltSpeed = 0 ∧ (conveying .running 18 0).tqs.stall < 19 ∧
    (speedInterval (conveying .topping 19 0)).trc.beltSpeed = 0 ∧ 19 ≤ (conveying .topping 19 0).tqs.stall ∧
    (conveying .running 18 0).geo.cb = some 20000 ∧ (speedInterval (conveying .running 18 0)).tqs.conveyor = .running ∧
    (speedInterval (conveying .topping 18 0)).tqs.conveyor = .topping ∧
    (speedInterval (conveying .topping 18 0)).tqs.conveyor = (conveying .topping 18 0).tqs.conveyor := by decide

theorem witness_SetDatumAccepted :
    (fitted.clp.slot = none ∧ fitted.clp.buffer = []) ∧ (-1000000000 : Int) ≤ -1000000000 ∧ (1000000000 : Int) ≤ 1000000000 ∧
    fitted.chL.state ≠ .auto ∧ fitted.chR.state ≠ .auto ∧ fitted.plt.splice = .idle := by decide

theorem witness_StageClear : State.reset.linkFree := ⟨rfl, rfl⟩

/-- A segment of the least length at `x`. -/
def seg (x : Int) : Segment := ⟨x, 100, 0, 3500, 0, 0, true, true, true⟩
def staged (xs : List Int) (p : SpliceState) : State :=
  setPlt (fun q => { q with staging := xs.map seg, splice := p, a := 50000, p := 50000, b := 60000 }) fitted
theorem witness_Staging :
    (staged [50000] .idle).plt.splice = .idle ∧ (1 : Nat) ≤ [seg 50100].length ∧
    ([50100, 50200, 50300, 50400, 50500, 50600, 50700, 50800].map seg).length ≤ 8 ∧
    (∀ g ∈ [50100, 50200, 50300, 50400, 50500, 50600, 50700, 50800].map seg, Segment.wellFormed g = true) ∧
    ([50100, 50200].map seg).head? = some (seg 50100) ∧ (staged [50000] .idle).plt.staging.getLast? = some (seg 50000) ∧
    Segment.finish (seg 50000) ≤ (seg 50100).start ∧
    ([50100, 50200].map seg).Pairwise (fun g h => Segment.finish g ≤ h.start) ∧
    (staged [50000] .idle).plt.staging.length + 8 ≤ 32 := by decide
theorem witness_Splice :
    (staged [50000, 59900] .idle).plt.splice = .idle ∧ (-1000000000 : Int) ≤ 50000 ∧ (50000 : Int) < 60000 ∧
    (60000 : Int) ≤ 1000000000 ∧
    (∀ g ∈ (staged [50000, 59900] .idle).plt.staging, 50000 ≤ g.start ∧ Segment.finish g ≤ 60000) ∧
    (staged [50000, 59900] .idle).bandMeets 50000 60000 = false ∧
    (staged [50000, 59900] .idle).plt.plan.length + (staged [50000, 59900] .idle).plt.staging.length ≤ 127 ∧
    (staged [] .suspended).plt.splice = .suspended ∧ (staged [] .running).plt.splice ≠ .idle := by decide
theorem witness_SpliceStepsTaken :
    (staged [50000] .running).plt.splice = .running ∧ (staged [50000] .running).plt.staging = seg 50000 :: [] ∧
    (staged [50000] .running).bandMeets 50000 ((seg 50000).start + (seg 50000).length) = false ∧
    (setTrc (fun t => { t with datum := 40000 }) (staged [50000] .running)).bandMeets 50000
      ((seg 50000).start + (seg 50000).length) = true ∧
    (staged [] .running).plt.splice = .running ∧ (staged [] .running).plt.staging = [] ∧
    (staged [] .running).bandMeets 50000 60000 = false ∧
    (setTrc (fun t => { t with datum := 40000 }) (staged [] .running)).bandMeets 50000 60000 = true := by decide

/-- The band of `fitted` is [−400, 21600): a range that ends at −400 is outside it, one that ends at −399 meets it. -/
theorem witness_PlanCoverage_band :
    (0 : Int) ≤ fitted.tun.bBehind ∧ (0 : Int) ≤ fitted.tun.bAhead ∧ fitted.bandMeets (-500) (-400) = false ∧
    fitted.bandMeets (-500) (-399) = true ∧ fitted.bandMeets 21599 21700 = true ∧ fitted.bandMeets 21600 21700 = false := by decide
/-- Ranges that leave a segment whole, that cut both its ends, and a plan in start order. -/
theorem witness_PlanCoverage_ranges :
    (seg 50000).start + (seg 50000).length ≤ 50100 ∧ 50010 < (seg 50000).start + (seg 50000).length ∧ (seg 50000).start < 50010 ∧
    50020 < (seg 50000).start + (seg 50000).length ∧ (50010 : Int) < 50020 ∧ Segment.covers (seg 50000) 50009 = true ∧
    ([seg 50000, seg 50100] : List Segment).Pairwise (fun p q => p.start ≤ q.start) := by decide
theorem witness_PlanRequests :
    fitted.plt.splice = .idle ∧ ¬(fitted.anyAuto = true ∧ fitted.target = .plan) ∧ (127 : Nat) ≤ 127 ∧ (1 : Nat) ≤ 1 ∧
    (8 : Nat) ≤ 8 := by decide

/-- The left channel in a state with a valid side plate, the right one OFF. -/
def channels (x : ChannelState) : State := leftOf { chan x with plate := some 912, holdSource := x = .held } fitted
theorem witness_EngageAccepted :
    ((channels .held).clp.slot = none ∧ (channels .held).clp.buffer = []) ∧ (channels .held).eStop = false ∧
    (channels .held).geo.w ≠ none ∧ (channels .held).geo.dd ≠ none ∧ (channels .held).geo.ppm ≠ none ∧
    (channels .held).chL.state ≠ .jog ∧ (channels .held).controlValid .L .depth = true ∧
    (channels .off).controlValid .L .depth = true ∧ (channels .off).chL.state = .off ∧ (channels .held).chL.state = .held ∧
    (channels .auto).chL.state = .auto := by decide
theorem witness_DisengageAndJog :
    (2 : Nat) ≤ 2 ∧ (channels .jog).chL.state = .jog ∧ (channels .off).eStop = false ∧ (channels .off).chL.state = .off ∧
    (10 : Nat) ≤ 10 ∧ (1000 : Nat) ≤ 1000 := by decide
/-- Every report kind enabled and none pending. -/
def reporting (s : State) : State := setClp (fun c => { c with enabled := 0x1FF, waiting := 0 }) s
/-- Changes that call for a report, and what is then pending: STATE and PERMIT by ENGAGE (R52, R175), GRADE at the tenth cycle on grade
and when a jog ends a count of 10 (R72), and nothing where nothing changes. -/
theorem test_reports_made :
    let engaged := (serve (.engage 0) (reporting (setTqs (fun q => { q with permit := .stop }) (channels .off)))).1
    let graded := loopCycle .L 683 0 0 (reporting (leftOf { chan .auto with grade := 9 } fitted))
    engaged.chL.state = .auto ∧ engaged.tqs.permit = .slow ∧ engaged.clp.waiting = 0b000010001 ∧ graded.chL.grade = 10 ∧
    graded.clp.waiting = 0b000000010 ∧ (serve (.engage 0) (reporting (channels .auto))).1.clp.waiting = 0 := by decide
/-- The release of E-stop over an active marker captures the d_cmd of the SLOPE side (R91), and keeps the depth when a side is
RETURNING. -/
def released (returning : Bool) : State :=
  releaseEStop { leftOf { chan .off with mode := .slope, dCmd := 900, returning := returning }
    (setMlc (fun m => { m with returnDepth := some 7, markers := [⟨1, 1600, 0, 5, .machine, .active⟩] }) fitted) with eStop := true }
theorem test_return_depth :
    (released false).mlc.causes.window = true ∧ (released false).mlc.returnDepth = some 900 ∧
    (released true).mlc.returnDepth = some 7 := by decide
theorem witness_OperatorValues :
    (0 : Int) ≤ 0 ∧ (3500 : Int) ≤ 3500 ∧ fitted.target = .set ∧ (fitted.ch Side.L.other).mode = .depth := by decide
theorem witness_LoopCycleMeasures :
    (loopCycle .L 600 600 600 (channels .off)).weighted .L = [] ∧ (loopCycle .L 614 600 600 (channels .off)).weighted .L ≠ [] ∧
    (channels .off).chL.state = .off ∧ (channels .jog).chL.state = .jog ∧
    (loopCycle .L 600 600 600 (channels .held)).chL.state = .held ∧ (channels .held).chL.valve = 0 := by decide

/-- Three markers: the drum has passed the first two by B_behind, the first of them at the end of that range, and not the third. -/
def behind : State :=
  setMlc (fun m => { m with
    eventCount := 65535, markers := [⟨4, -9000, 0, 1, .machine, .passed⟩, ⟨2, -4800, 6, 1400, .scanner, .passed⟩,
      ⟨3, -3399, 0, 0, .machine, .passed⟩] }) (setTun (fun t => { t with bBehind := 5000 }) (reporting fitted))
theorem witness_LoopCycleMeasures_markers :
    behind.drum = 1600 ∧
    behind.mlc.markers.filter (fun k => decide (k.m + k.trail + behind.tun.bBehind ≤ behind.drum)) =
      [⟨4, -9000, 0, 1, .machine, .passed⟩] ++ [⟨2, -4800, 6, 1400, .scanner, .passed⟩] ∧ behind.mlc.eventCount ≤ 65535 ∧
    fitted.mlc.markers.filter (fun k => decide (k.m + k.trail + fitted.tun.bBehind ≤ fitted.drum)) = [] ∧
    behind.clp.enabled.getLsbD 5 = true := by decide
/-- Two markers passed out: both counted, the later one recorded, and a MARKER report (R80). -/
theorem test_passed_out :
    let t := loopCycle .L 0 0 0 behind
    t.mlc.markers.map (fun k => k.id) = [3] ∧ t.mlc.eventCount = 1 ∧
    t.mlc.lastEvent = ⟨.passedOut, 2, -4800, 6, 1400, .scanner⟩ ∧ t.clp.waiting = 0b000100000 := by decide

/-- A channel in AUTO to its setpoint 1000, d_cmd 900, with the ski out of use. -/
def toSetpoint (trim : Int) : State :=
  setTunL ⟨32, 3, 0, 20, 8, 0⟩ (leftOf { chan .auto with depthSet := 1000, trim := trim, dCmd := 900 } fitted)
theorem witness_LoopCycleDepthControl :
    let s := toSetpoint 0
    s.chL.state = .auto ∧ s.chL.mode = .depth ∧ s.chL.lastLifted = false ∧ s.chL.returning = false ∧ s.mlc.markers = [] ∧
    s.mlc.causes = ⟨false, false, false⟩ ∧ s.target = .set ∧ 614 ≤ 614 ∧ 3532 ≤ 3532 ∧ 0 < (s.chTun .L).wSP ∧
    (s.chTun .L).wSK = 0 ∧ 0 ≤ s.env.rd ∧ 0 ≤ s.env.vmax ∧ 0 < (s.chTun .L).kp ∧ 0 ≤ s.chL.depthSet + s.chL.trim ∧
    s.chL.depthSet + s.chL.trim ≤ s.env.dmax := by decide
theorem witness_LoopCycleDepthControl_clamps :
    (toSetpoint (-1001)).chL.depthSet + (toSetpoint (-1001)).chL.trim < 0 ∧
    (toSetpoint 2001).env.dmax < (toSetpoint 2001).chL.depthSet + (toSetpoint 2001).chL.trim := by decide

/-- The cycle's lift state, and channels that head for each kind of goal: lifted, setpoint, plan depth inside and outside a CUT
segment, RETURNING with and without a return depth, and slope control with and without a depth source. -/
theorem witness_LoopCycleGoals_depth :
    let lifted := setMlc (fun m => { m with causes := ⟨true, false, false⟩ }) (toSetpoint 0)
    let plan : State := { setPlt (fun p => { p with plan := [⟨1500, 100, 0, 0, 0, 0, true, true, true⟩] }) (toSetpoint 0) with
      target := .plan }
    lifted.chL.state = .auto ∧ (loopCycle .L 614 0 0 lifted).mlc.causes ≠ ⟨false, false, false⟩ ∧
    (toSetpoint 0).chL.mode = .depth ∧ (toSetpoint 0).target = .set ∧ (toSetpoint 0).mlc.causes = ⟨false, false, false⟩ ∧
    plan.target = .plan ∧
    plan.plt.plan.find? (fun h => decide (h.start ≤ plan.drum) && decide (plan.drum < h.start + h.length)) = none ∧
    (setTrc (fun t => { t with datum := -100 }) plan).plt.plan.find? (fun h => decide (h.start ≤
      (setTrc (fun t => { t with datum := -100 }) plan).drum) && decide ((setTrc (fun t => { t with datum := -100 }) plan).drum <
      h.start + h.length)) = some ⟨1500, 100, 0, 0, 0, 0, true, true, true⟩ := by decide
def sloping (returning : Bool) : State :=
  leftOf { chan .auto with mode := .slope, returning := returning, slopeSet := 250, dCmd := 900 } fitted
theorem witness_LoopCycleGoals_slope :
    (sloping true).chL.mode = .slope ∧ (sloping true).chL.returning = true ∧ (sloping true).chL.lastLifted = false ∧
    (loopCycle .L 614 0 683 (sloping true)).mlc.returnDepth = none ∧ (sloping false).chL.returning = false ∧
    (loopCycle .L 614 0 683 (sloping false)).weighted .L ≠ [] ∧ (loopCycle .L 613 0 683 (sloping false)).weighted .L = [] ∧
    (loopCycle .L 614 0 683 (sloping true)).chL.goal = some 0 ∧ (loopCycle .L 614 0 683 (sloping false)).chL.goal = none := by
  decide
theorem witness_LoopCycleSlopeControl :
    (sloping false).chL.state = .auto ∧ (sloping false).chL.mode = .slope ∧ (sloping false).chL.lastLifted = false ∧
    (sloping false).chL.returning = false ∧ (sloping false).mlc.markers = [] ∧
    (sloping false).mlc.causes = ⟨false, false, false⟩ ∧ 614 ≤ 614 ∧ 3532 ≤ 3532 ∧ (sloping false).geo.w = some 2200 ∧
    0 < ((sloping false).chTun .L).kp ∧ 0 ≤ (sloping false).env.vmax ∧ 613 < 614 ∧ 3532 < 3533 := by decide
theorem witness_SourceLossAndReturn :
    (toSetpoint 0).chL.mode = .depth ∧ ((toSetpoint 0).chTun .L).wSK = 0 ∧ (toSetpoint 0).chL.state = .auto ∧ 613 < 614 ∧
    3532 < 3533 ∧ (setTunL ⟨32, 3, 0, 20, 8, 0⟩ (channels .held)).chL.state = .held ∧
    (setTunL ⟨32, 3, 0, 20, 8, 0⟩ (channels .held)).chL.holdSource = true ∧
    0 < ((setTunL ⟨32, 3, 0, 20, 8, 0⟩ (channels .held)).chTun .L).wSP := by decide

def marked (n : Nat) : State :=
  setMlc (fun m => { m with
    nextId := 255, markers := (List.range n).map (fun i => ⟨i + 1, 50000 + i, 3000, 1500, .machine, .armed⟩) }) fitted
theorem witness_MarkerRequests :
    (-1000000000 : Int) ≤ 1000000000 ∧ (20000 : Nat) ≤ 20000 ∧ (∀ q ∈ (marked 15).mlc.markers, q.m ≠ 1000000000) ∧
    (marked 15).mlc.markers.length < 16 ∧ 1 ≤ (marked 15).mlc.nextId ∧ (marked 15).mlc.nextId ≤ 255 ∧
    (∀ q ∈ (marked 15).mlc.markers, q.id ≠ (marked 15).mlc.nextId) ∧
    (marked 15).mlc.markers.find? (fun q => q.id = 1) = some ⟨1, 50000, 3000, 1500, .machine, .armed⟩ ∧
    MarkerState.armed ≠ .active ∧ (15 : Nat) ≤ 15 ∧ (1 : Nat) ≤ 8 := by decide
/-- A trip on the window of a marker (at its end it is outside), on one that reaches it already, on none, and on a full list. -/
theorem witness_TripTaken :
    let k : Marker := ⟨1, 50000, 3000, 1500, .machine, .armed⟩
    let one := marked 1
    one.mlc.markers = [k] ∧ one.mlc.markers.Pairwise (fun p q => p.m < q.m) ∧
    (k.m - k.lead ≤ 47000 ∧ 51499 < k.m + k.trail) ∧
    min 20000 (max k.trail (51499 + one.tun.autoTrail - k.m)) ≠ k.trail ∧
    min 20000 (max k.trail (47000 + one.tun.autoTrail - k.m)) = k.trail ∧
    (∀ q ∈ one.mlc.markers, q.m ≠ 51500 ∧ (51500 < q.m - q.lead ∨ q.m + q.trail ≤ 51500)) ∧
    one.mlc.markers.length < 16 ∧ 1 ≤ one.mlc.nextId ∧ one.mlc.nextId ≤ 255 ∧ one.clp.enabled.getLsbD 5 = true ∧
    (∀ q ∈ one.mlc.markers, q.id ≠ one.mlc.nextId) := by decide
set_option maxRecDepth 2000 in
theorem witness_TripTaken_full :
    (marked 16).mlc.markers.Pairwise (fun p q => p.m < q.m) ∧ 16 ≤ (marked 16).mlc.markers.length ∧
    ∀ q ∈ (marked 16).mlc.markers, q.m ≠ 52000 ∧ (52000 < q.m - q.lead ∨ q.m + q.trail ≤ 52000) := by decide
theorem witness_LiftAndReturn :
    (channels .auto).chL.state = .auto ∧
    (setMlc (fun m => { m with causes := ⟨true, false, false⟩ }) (channels .auto)).mlc.causes.manual = true := by decide

def scanning (w : Option Awaited) (b : List Line) : State :=
  setSpr (fun p => { p with enable := true, awaited := w, buffer := b }) fitted
def aLine (m : LineMark) : Line := ⟨3, 7000, m, List.replicate 64 ⟨11480, 100⟩⟩
theorem witness_ScanTriggers :
    fitted.spr.enable = false ∧ (scanning none []).spr.awaited = none ∧ (scanning none []).geo.ds = some 7000 ∧
    (scanning (some ⟨3, 0, .idle, 0⟩) []).spr.awaited = some ⟨3, 0, .idle, 0⟩ := by decide
theorem witness_LineArrivalTaken :
    (List.replicate 193 (3 : Byte)).length = 193 ∧ fitted.spr.rx = .hunt ∧
    (scanning (some ⟨3, 0, .idle, 0⟩) [aLine .idle]).spr.awaited = some ⟨3, 0, .idle, 0⟩ ∧
    ((List.replicate 193 (3 : Byte)).getD 0 0).toNat = 3 ∧ (scanning none [aLine .idle]).spr.buffer.length < 2 ∧
    2 ≤ (scanning none [aLine .idle, aLine .idle]).spr.buffer.length ∧ ∀ w, fitted.spr.awaited = some w → w.number ≠ 3 := by
  refine ⟨List.length_replicate, by decide, by decide, by decide, by decide, by decide, ?_⟩
  intro w h
  cases h
set_option maxRecDepth 4000 in
/-- Scanner frames that are discarded (R95): another kind, another length, a wrong CRC, and a length byte of 249. -/
theorem witness_LineArrivalTaken_discarded :
    fitted.spr.rx = .hunt ∧ (0x52 : Byte) ≠ 0x51 ∧ ([] : List Byte).length ≠ 193 ∧ ([] : List Byte).length ≤ 248 ∧
    ([0, 0] : List Byte) ≠ crcBytes (crcOf [0, 0x51, 7]) ∧ 248 < (249 : Byte).toNat := by decide
set_option maxRecDepth 4000 in
theorem test_line_discarded :
    (([0x5A, 0, 0x51, 7, 0, 0] : List Byte).foldl scannerByte fitted).spr.counters.bad = 1 ∧
    ((Frame.wire ⟨0x51, 7, []⟩).foldl scannerByte fitted).spr.counters.bad = 1 := by decide
theorem witness_LineCompletionTaken :
    (scanning none [aLine .idle]).spr.buffer = aLine .idle :: [] ∧ (aLine .idle).mark = .idle := by decide
/-- A line whose cells have signatures, and one whose cells are all VOID. -/
theorem witness_LineCompletionTaken_cells :
    let t := lineCompletion (scanning none [aLine .idle])
    let u := lineCompletion (scanning none [⟨3, 7000, .idle, []⟩])
    t.spr.latest.map (fun r => (r.lineAvg, r.strength)) = some (11480, 100) ∧
    t.ski .L = some ⟨11480, 0⟩ ∧ t.freeUsed = 0 ∧ u.ski .L = none ∧ u.freeUsed = 1 ∧
    u.spr.latest.map (fun r => (r.fouled, r.low)) = some (true, true) ∧ u.spr.fouledRun = 1 ∧
    (lineCompletion (setSpr (fun p => { p with fouledRun := 3 }) (scanning none [⟨3, 7000, .idle, []⟩]))).spr.fouled = true := by
  decide
theorem witness_LineCompletionTaken_runs :
    let t := lineCompletion (scanning none [aLine .newGround])
    t.spr.latest.map (fun r => (r.fouled, r.low)) = some (false, false) ∧
    (lineCompletion (setSpr (fun p => { p with fouled := true, lowReturn := true })
      (scanning none [aLine .newGround]))).spr.fouledRun = 1 := by decide

/-- A detector that has entered a line at 6900 and meets the next one. -/
def detecting (d : DetState) (n : Nat) : State :=
  setChd (fun c => { c with lastAt := some 6900, det := d, n := n, quiet := n, runStart := some 6800 })
    (scanning none [aLine .newGround])
theorem witness_DetectorHandOver :
    (detecting .counting 1).spr.buffer = aLine .newGround :: [] ∧ (aLine .newGround).mark = .newGround ∧
    (detecting .counting 1).geo.dd = some 1600 ∧ (detecting .counting 1).geo.ds = some 7000 ∧
    (detecting .counting 1).spr.fouled = false ∧ (detecting .counting 1).spr.lowReturn = false ∧ (1600 : Int) < 7000 ∧
    (detecting .counting 1).chd.lastAt = some 6900 ∧ (6900 : Int) < (aLine .newGround).scanAt ∧
    (aLine .newGround).scanAt ≤ 6900 + 8 * (detecting .counting 1).tun.scanPitch ∧
    (detecting .counting 1).chd.runStart = some 6800 ∧ ((detecting .counting 1).chd.n : Int) + 1 = fitted.tun.nt ∧
    (setSpr (fun p => { p with fouled := true }) (detecting .quiet 0)).spr.fouled = true ∧ 1 < fitted.tun.nt := by decide
/-- The first line after a restart or a suspension: no line has been entered. -/
theorem witness_DetectorHandOver_first :
    (scanning none [aLine .newGround]).spr.buffer = aLine .newGround :: [] ∧ fitted.chd.lastAt = none ∧
    ∀ e, (scanning none [aLine .newGround]).chd.lastAt = some e →
      e < (aLine .newGround).scanAt ∧ (aLine .newGround).scanAt ≤ e + 8 * fitted.tun.scanPitch := by
  refine ⟨by decide, by decide, fun e h => ?_⟩
  cases h
theorem witness_DetectorHandOver_detects :
    let s := setChd (fun c => { c with mode := .held, held := some ⟨List.replicate 16 (some 11600), 0, 0⟩ }) (detecting .quiet 0)
    (s.lookup 7000).detect = true ∧ s.tun.nc ≤ (((s.evaluateLine 7000 (aLine .newGround).points).filter id).length : Int) := by
  decide
theorem witness_DetectorHandOver_tripped :
    (detecting .tripped 0).chd.det = .tripped ∧ ((detecting .tripped 0).chd.quiet : Int) + 1 < fitted.tun.nt ∧
    fitted.tun.nt ≤ ((detecting .tripped 1).chd.quiet : Int) + 1 ∧ (detecting .quiet 0).chd.det = .quiet ∧
    (setTun (fun t => { t with nt := 1 }) fitted).tun.nt ≤ 1 := by decide
/-- A line that does not follow on in each mode, and counts at both sides of k. -/
def lineAfter (m : RefMode) (last : Int) (steps : Nat) : State :=
  setChd (fun c => { c with mode := m, lastAt := some last, stepCount := steps, held := some ⟨List.replicate 16 (some 11480), 0, 0⟩ })
    (scanning none [aLine .newGround])
theorem witness_DetectorReferences :
    let s := lineAfter .stepped 6900 3
    s.spr.buffer = aLine .newGround :: [] ∧ (aLine .newGround).mark = .newGround ∧ s.geo.dd = some 1600 ∧ s.geo.ds = some 7000 ∧
    s.spr.fouled = false ∧ s.spr.lowReturn = false ∧ 1 ≤ s.tun.nc ∧ s.chd.mode = .stepped ∧
    (∀ e, s.chd.lastAt = some e → e < 7000 ∧ 7000 ≤ e + 8 * s.tun.scanPitch) ∧ s.tun.k ≤ (s.chd.stepCount : Int) + 1 ∧
    ((lineAfter .stepped 6900 2).chd.stepCount : Int) + 1 < s.tun.k ∧ fitted.chd.mode = .rolling ∧ 1 ≤ fitted.tun.k ∧
    (fitted.chd.history.length : Int) < fitted.tun.k ∧ (1 : Int) < fitted.tun.k ∧
    (setTun (fun t => { t with k := 1 }) fitted).tun.k ≤ 1 := by
  refine ⟨rfl, rfl, rfl, rfl, rfl, rfl, by decide, rfl, ?_, by decide, by decide, rfl, by decide, by decide, by decide, by decide⟩
  intro e h
  cases h
  decide
theorem witness_DetectorReferences_restart :
    (lineAfter .rolling 7000 0).chd.lastAt = some 7000 ∧ (aLine .newGround).scanAt ≤ 7000 ∧
    (lineAfter .held 6199 0).chd.lastAt = some 6199 ∧ 6199 + 8 * (lineAfter .held 6199 0).tun.scanPitch < (aLine .newGround).scanAt ∧
    (lineAfter .held 6199 0).chd.mode = .held ∧ (lineAfter .stepped 6199 0).chd.mode = .stepped ∧
    ((lineAfter .held 6199 0).evaluateLine 7000 (aLine .newGround).points).filter id = [] ∧
    (lineCompletion (lineAfter .held 6199 0)).chd.held = (lineAfter .held 6199 0).chd.held := by decide

theorem witness_ScannerRequests :
    fitted.spr.enable = false ∧ fitted.geo.ds ≠ none ∧ fitted.geo.w ≠ none ∧ (scanning none []).spr.enable = true ∧
    (0xFFFE : BitVec 16) ≠ 0xFFFF ∧ (setTun (fun t => { t with refMode := .stepped }) fitted).tun.refMode ≠ .rolling ∧
    (lineCompletion (scanning none [aLine .idle])).spr.latest.isSome = true := by decide

theorem witness_ClearFlags : State.reset.linkFree ∧
    (State.reset.cst.flags &&& ~~~((0x1FFF : BitVec 16).setWidth 13)) = State.reset.cst.flags &&& ~~~0x1FFF := ⟨⟨rfl, rfl⟩, rfl⟩
theorem witness_StatusRequests : fitted.linkFree ∧ 31 ≤ 31 ∧ 1 ≤ 1 ∧ 8 ≤ 8 := ⟨⟨rfl, rfl⟩, by decide⟩
theorem witness_FaultCapture :
    let s : State := { fitted with mpr := { fitted.mpr with lock := true } }
    (s.clp.slot = none ∧ s.clp.buffer = []) ∧ s.mpr.lock = true ∧ 1 ≤ 1 ∧ s.cst.flags.getLsbD 12 = false ∧
    s.cst.armed = false ∧ (setFlag .lockedWrite s).cst.flags.getLsbD 12 = true ∧
    ({ s with cst := { s.cst with armed := true } } : State).cst.armed = true := by decide

/-- Both channels measure a depth, with parcels on the belt. -/
def metering (d : Int) (ps : List Parcel) : State :=
  setLoad (fun l => { l with parcels := ps }) { fitted with chL := { chan .off with dMeas := d }, chR := { chan .off with dMeas := d } }
theorem witness_VolumeStepMetered :
    State.reset.geo.w = none ∧ fitted.geo.w = some 2200 ∧
    Int.tdiv ((max (-480) 0 + max (-500) 0) * 2200 * 125) 20000 = (0 : Int) ∧
    Int.tdiv ((max 1000 0 + max 1000 0) * 2200 * (metering 1000 []).tun.swell) 20000 = 27500 ∧
    ((metering 1000 []).load.vc : Int) + 27500 ≤ 9223372036854775807 ∧
    ((metering 1000 []).lookup (metering 1000 []).drum).disposition = .mill ∧ fitted.geo.lb ≠ none ∧ fitted.geo.cb ≠ none ∧
    (setTun (fun t => { t with defaultDisp := .travel }) fitted).tun.defaultDisp.disposition = .travel := by decide
theorem witness_VolumeStepMetered_limit :
    ((setLoad (fun l => { l with vc := 9223372036854748307 }) fitted).load.vc : Int) + 27500 ≤ 9223372036854775807 ∧
    (9223372036854775807 : Int) < (setLoad (fun l => { l with vc := 9223372036854748308 }) fitted).load.vc + 27500 := by decide
theorem witness_VolumeStepMetered_parcels :
    (metering 1000 []).load.parcels = [] ∧ (metering 1000 [⟨9, 49⟩]).load.parcels = [] ++ [⟨9, 49⟩] ∧ (49 : Nat) < 50 ∧
    (metering 1000 [⟨9, 50⟩]).load.parcels.length < 32 ∧
    (metering 1000 (List.replicate 31 ⟨1, 900⟩ ++ [⟨1, 50⟩])).load.parcels = List.replicate 31 ⟨1, 900⟩ ++ [⟨1, 50⟩] ∧
    32 ≤ (metering 1000 (List.replicate 31 ⟨1, 900⟩ ++ [⟨1, 50⟩])).load.parcels.length ∧ fitted.hc = some 200000 ∧
    (200000 : Int) < (volumeStep (metering 1000 [⟨172501, 0⟩])).beltContent := by decide
/-- A running conveyor whose head needs 10,000 cm³ more, with 9,999 + `v` cm³ at `p`. -/
def nearlyFull (v p : Nat) : State :=
  setTqs (fun q => { q with conveyor := .running, cmd := 2500, trucks := [⟨1, 1000, 990000, .loading⟩] })
    (metering 1000 [⟨9999 + v, p⟩])
/-- The topping test of R169 at a new parcel and at a belt step: met and not met, by volume and by place (Lb − Lt is 9000). -/
theorem test_topping :
    let at_ (s : State) : Conveyor × Int := (s.tqs.conveyor, s.tqs.cmd)
    at_ (volumeStep (nearlyFull 1 9000)) = (.topping, 800) ∧ at_ (volumeStep (nearlyFull 0 9000)) = (.running, 2500) ∧
    at_ (volumeStep (nearlyFull 1 8999)) = (.running, 2500) ∧ at_ (beltStep (nearlyFull 1 8990)) = (.topping, 800) ∧
    at_ (beltStep (nearlyFull 1 8980)) = (.running, 2500) := by decide
theorem witness_BeltStepDischarge :
    discharging.geo.lb = some 10000 ∧ discharging.load.parcels ≠ [] ∧ (∀ q ∈ discharging.load.parcels, q.pos ≤ (10000 : Int).toNat) ∧
    discharging.tqs.trucks = ⟨1, 20000, 19980000, .loading⟩ :: [⟨2, 18000, 0, .waiting⟩] ∧
    (⟨1, 20000, 19980000, .loading⟩ : Truck).takes = true ∧ (19980000 : Nat) < 20000 * 1000 ∧
    20000 * 1000 - 19980000 ≤ 27500 ∧ (beltStep discharging).headReady = false ∧
    (setTqs (fun q => { q with trucks := [⟨1, 20000, 0, .loading⟩] }) discharging).tqs.conveyor = .topping := by decide
/-- A second parcel at Lb fills the truck, an exact need, and an empty list. -/
theorem witness_BeltStepDischarge_later :
    fitted.load.parcels = [] ∧
    ([⟨15000, 10000⟩, ⟨15000, 10000⟩, ⟨9, 30⟩] : List Parcel) = [⟨15000, 10000⟩] ++ ⟨15000, 10000⟩ :: [⟨9, 30⟩] ∧
    (∀ f ∈ ([⟨15000, 10000⟩] : List Parcel), (10000 : Int).toNat ≤ f.pos) ∧
    19980000 + volumeOf [⟨15000, 10000⟩] < 20000 * 1000 ∧ 20000 * 1000 - (19980000 + volumeOf [⟨15000, 10000⟩]) ≤ 15000 ∧
    volumeOf ([] : List Parcel) = 0 := by decide
theorem test_second_parcel_fills :
    (beltStep (setLoad (fun l => { l with parcels := [⟨15000, 9990⟩, ⟨15000, 9995⟩, ⟨9, 20⟩] }) discharging)).load.parcels =
      [⟨10000, 10000⟩, ⟨9, 30⟩] := by decide
theorem witness_CountersReset : fitted.linkFree := ⟨rfl, rfl⟩

def queued (x : TruckState) (v : Conveyor) : State :=
  setTqs (fun q => { q with conveyor := v, trucks := [⟨1, 20000, 0, x⟩, ⟨65535, 1000, 0, .waiting⟩] }) fitted
theorem witness_TruckRequests :
    (1000 : Nat) ≤ 1000 ∧ ((40000 : Nat) : Int) ≤ fitted.env.truckMax ∧ (∀ t ∈ (queued .waiting .stopped).tqs.trucks, t.id ≠ 2) ∧
    (queued .waiting .stopped).tqs.trucks.length < 4 ∧
    (queued .waiting .stopped).tqs.trucks = ⟨1, 20000, 0, .waiting⟩ :: [⟨65535, 1000, 0, .waiting⟩] ∧
    (∃ t ∈ [(⟨65535, 1000, 0, .waiting⟩ : Truck)], t.id = 65535) ∧
    (queued .waiting .stopped).tqs.conveyor ≠ .waiting ∧ (queued .waiting .waiting).tqs.conveyor = .waiting ∧
    (queued .loading .running).tqs.conveyor ≠ .stopped ∧ (queued .loading .running).tqs.conveyor ≠ .waiting := by decide
theorem witness_ConveyorRequests :
    (queued .waiting .stopped).eStop = false ∧ fitted.geo.lb ≠ none ∧ fitted.geo.cb ≠ none ∧ fitted.geo.bppm ≠ none ∧
    fitted.geo.w ≠ none ∧ (queued .waiting .stopped).tqs.conveyor = .stopped ∧ (queued .waiting .stopped).headReady = false ∧
    (queued .inPosition .stopped).head.map (·.state) = some .inPosition ∧ (queued .loading .running).tqs.conveyor ≠ .stopped := by
  decide

/-- An id outside the table, a set item, a locked envelope, a value out of range, and both gates shut. -/
theorem witness_ParameterTable :
    findParam 8 = none ∧
    (∃ row, findParam 1 = some row ∧ row.cls = .geometry ∧ row.get fitted.mpr.params ≠ none) ∧
    (∃ row, findParam 16 = some row ∧ row.cls = .envelope ∧ row.ok 3501 = false ∧ row.ok 3500 = true) ∧
    ({ fitted with mpr := { fitted.mpr with lock := true } } : State).mpr.lock = true ∧ fitted.cst.flags.getLsbD 12 = false ∧
    fitted.cst.armed = false ∧ (setFlag .lockedWrite fitted).cst.flags.getLsbD 12 = true ∧
    (∃ row, findParam 91 = some row ∧ row.cls = .calibration ∧ row.ok 0 = true) ∧ (channels .jog).chL.state = .jog ∧
    (channels .auto).chL.state ≠ .off ∧ (channels .auto).mpr.calOpen = false := by
  refine ⟨by decide, ⟨_, rfl, rfl, by decide⟩, ⟨_, rfl, rfl, by decide, by decide⟩, rfl, by decide, by decide, by decide,
    ⟨_, rfl, rfl, by decide⟩, by decide, by decide, by decide⟩

/-- A geometry write on a part without items, an envelope, a tuning and a calibration write on a part at rest. -/
theorem witness_SetParamAccepted :
    State.reset.linkFree ∧
    (∃ row, findParam 1 = some row ∧ row.cls = .geometry ∧ row.get State.reset.mpr.params = none ∧ row.ok 1000 = true) ∧
    (∃ row, findParam 20 = some row ∧ row.cls = .envelope ∧ row.ok 100 = true) ∧ State.reset.mpr.lock = false ∧
    (∃ row, findParam 60 = some row ∧ row.cls = .tuning ∧ row.ok 5000 = true) ∧
    (∃ row, findParam 91 = some row ∧ row.cls = .calibration ∧ row.ok (-10000) = true) ∧
    ∀ c, State.reset.writeGate c = true := by
  refine ⟨⟨rfl, rfl⟩, ⟨_, rfl, rfl, rfl, by decide⟩, ⟨_, rfl, rfl, by decide⟩, rfl, ⟨_, rfl, rfl, by decide⟩,
    ⟨_, rfl, rfl, by decide⟩, ?_⟩
  intro c
  cases c <;> rfl
/-- The items with an owner's act: the completing pair, a changed mode, a topping test that is met and one that is not. -/
theorem witness_SetParamAccepted_owners :
    (∃ row, findParam 4 = some row ∧ row.cls = .geometry ∧ row.get (setGeo { items with lb := none } fitted).mpr.params = none ∧
      row.ok 2000 = true) ∧
    (∃ row, findParam 49 = some row ∧ row.cls = .tuning ∧ row.ok 2 = true) ∧
    (∃ row, findParam 57 = some row ∧ row.cls = .tuning ∧ row.ok 3000 = true ∧ row.ok 200 = true) ∧
    (setTqs (fun q => { q with conveyor := .running }) discharging).tqs.conveyor = .running ∧
    20000 * 1000 ≤ 19980000 + (setTun (fun t => { t with lt := 3000 }) discharging).nearDischarge ∧
    19980000 + (setTun (fun t => { t with lt := 200 }) (setLoad (fun l => { l with parcels := [] }) discharging)).nearDischarge <
      20000 * 1000 ∧ fitted.tqs.trucks = [] := by
  refine ⟨⟨_, rfl, rfl, rfl, by decide⟩, ⟨_, rfl, rfl, by decide⟩, ⟨_, rfl, rfl, by decide, by decide⟩, ?_⟩
  decide
theorem witness_ParamRequests :
    (∃ row, findParam 24 = some row ∧ row.cls = .envelope) ∧ fitted.mpr.lock = false ∧
    (setFlag .lockedWrite { fitted with mpr := { fitted.mpr with lock := true } }).cst.flags.getLsbD 12 = true ∧
    sensorOf 0 = some .plateL ∧ Sensor.knownOk .plateL 5000 = true ∧ Sensor.knownOk .plateL (-3000) = true ∧
    614 ≤ (leftOf { chan .off with rawPlate := 614 } fitted).rawOf .plateL ∧
    (leftOf { chan .off with rawPlate := 3532 } fitted).rawOf .plateL ≤ 3532 ∧ fitted.chL.state = .off ∧ fitted.chR.state = .off := by
  refine ⟨⟨_, rfl, rfl⟩, ?_⟩
  decide

theorem witness_LinkReads : fitted.linkFree ∧ (4 : Nat) < 5 := ⟨⟨rfl, rfl⟩, by decide⟩
theorem witness_SetReporting : fitted.linkFree := ⟨rfl, rfl⟩
theorem witness_TransmitEnd :
    busyLink.clp.slot = some ⟨0xB2, 21, []⟩ ∧ busyLink.clp.buffer = ⟨22, .lift⟩ :: [⟨23, .lift⟩] ∧
    (setClp (fun c => { c with buffer := [] }) busyLink).clp.buffer = [] ∧ State.reset.clp.slot = none ∧
    State.reset.clp.buffer = [] ∧ State.reset.clp.waiting.getLsbD ReportKind.state.code = true ∧
    (∀ j, j < ReportKind.state.code → State.reset.clp.waiting.getLsbD j = false) ∧
    (setClp (fun c => { c with waiting := 0 }) State.reset).clp.waiting = 0 ∧ State.reset.clp.tx = none ∧
    (setClp (fun c => { c with tx := none }) busyLink).clp.slot = some ⟨0xB2, 21, []⟩ := by
  refine ⟨by decide, by decide, by decide, by decide, by decide, by decide, ?_, by decide, by decide, by decide⟩
  intro j h
  exact absurd h (Nat.not_lt_zero j)
/-- The only waiting request, and one with a payload of the wrong length and one of no kind. -/
theorem witness_TransmitEnd_only :
    (setClp (fun c => { c with buffer := [⟨22, .lift⟩] }) busyLink).clp.buffer = ⟨22, .lift⟩ :: [] ∧
    queuedOf (.lift 22) = some ⟨22, .lift⟩ ∧ Request.badLength 0x1B = .badLength (Request.badLength 0x1B).kind ∧
    Request.unknown 0x05 = .unknown (Request.unknown 0x05).kind := by decide
theorem witness_FramingEvents :
    248 < (249 : Byte).toNat ∧ State.reset.clp.rx = .hunt ∧
    (setClp (fun c => { c with rx := .inFrame [] }) State.reset).clp.rx = .inFrame [] ∧
    (setSpr (fun p => { p with rx := .inFrame [1] }) State.reset).spr.rx = .inFrame [1] := by decide
theorem witness_SilenceAndTelemetry :
    0 < (setTun (fun t => { t with silenceTimeout := 200, telemetryPeriod := 100 }) fitted).tun.silenceTimeout ∧
    fitted.clp.silent = false ∧
    0 < (setTun (fun t => { t with silenceTimeout := 200, telemetryPeriod := 100 }) fitted).tun.telemetryPeriod ∧
    (channels .auto).chL.state = .auto ∧ (channels .held).chL.state = .held ∧ (channels .jog).chL.state = .jog ∧
    (channels .held).chL.holdLink = false ∧ (leftOf { chan .auto with grade := 10 } fitted).chL.grade = 10 ∧
    fitted.clp.enabled.getLsbD 1 = false ∧ (0x1FF : BitVec 9).getLsbD 1 = true ∧ fitted.tqs.permit ≠ .stop := by decide
theorem witness_ValidFrameActsAsItsRequest :
    queuedOf (.setTrim 9 1 (-32768)) = some ⟨9, .setTrim 1 (-32768)⟩ ∧ (Instr.setTrim 9 1 (-32768)).wf = true ∧
    State.reset.clp.rx = .hunt := by decide
set_option maxRecDepth 4000 in
/-- A request behind a full slot that waits and one that is dropped, a wrong CRC, the least kind of a reply, and a LIFT with a payload. -/
theorem witness_ValidFrameActsAsItsRequest_not_taken :
    queuedOf (.lift 24) = some ⟨24, .lift⟩ ∧ busyLink.clp.tx ≠ none ∧ busyLink.clp.slot ≠ none ∧ busyLink.clp.rx = .hunt ∧
    (setClp (fun c => { c with buffer := [⟨22, .lift⟩] }) busyLink).clp.buffer.length < 2 ∧ 2 ≤ busyLink.clp.buffer.length ∧
    ([0, 0] : List Byte) ≠ crcBytes (crcOf [0, 0x1B, 7]) ∧ 128 ≤ (0x80 : Byte).toNat ∧ (0x1B : Byte).toNat < 128 ∧
    Request.parse 0x1B [0] = .badLength 0x1B := by decide
set_option maxRecDepth 4000 in
theorem test_frames_refused :
    (([0x5A, 0, 0x1B, 7, 0, 0] : List Byte).foldl linkByte fitted).clp.counters.crc = 1 ∧
    ((Frame.wire ⟨0x80, 7, []⟩).foldl linkByte fitted).clp.counters.format = 1 ∧
    ((Frame.wire ⟨0x1B, 7, [0]⟩).foldl linkByte fitted).clp.tx = some ⟨0x9B, 7, [0x11]⟩ := by decide

/-- Every step answers a next state. -/
theorem step_next (s : State) : ∃ t, step s = .next t := by
  unfold step
  split
  · exact exec_next _ _
  · unfold idle
    split
    · exact exec_next _ _
    · exact ⟨_, rfl⟩

theorem witness_VolumeBalanceKept : discharging.volumeBalanced := by unfold State.volumeBalanced; decide
theorem witness_EStopSafeKept :
    (assertEStop (channels .auto)).eStop = true ∧ (assertEStop (channels .auto)).eStopSafe := by
  unfold State.eStopSafe
  decide
theorem witness_PermitFormedKept : (formPermit discharging).permitFormed := by unfold State.permitFormed; decide
theorem witness_LinkOrderKept : busyLink.linkOrdered := by unfold State.linkOrdered; decide
theorem witness_LinkOrderKept_idle :
    let s := setClp (fun c => { c with waiting := 0 }) State.reset
    (s.clp.buffer.length ≤ 2 ∧ (s.clp.buffer ≠ [] → s.clp.slot ≠ none) ∧ (s.clp.slot ≠ none → s.clp.tx ≠ none)) ∧
    (startTx (scanTrigger 0 s)).clp.tx = none := by decide
theorem witness_ChannelsSoundKept : (channels .held).channelsSound := by
  unfold State.channelsSound Channel.sound
  decide
theorem witness_PlanOrderKept : (setPlt (fun p => { p with plan := [patch] }) (staged [50000, 50100] .running)).planOrdered := by
  unfold State.planOrdered ordered
  decide
theorem witness_TrucksSoundKept : (queued .loading .running).trucksSound := by
  refine ⟨by decide, by decide, by decide, ?_⟩
  show (queued .loading .running).head.map (·.state) = some .loading
  decide
theorem witness_TravelMarksKept : (nearBoundary 70).travelSound := by unfold State.travelSound; decide

end Sys2Proof.Tests
end

section
/-! The travel marks (R4, R9 to R11): which operations read and move them, and that every step keeps them. -/

namespace Sys2Proof.Machine

/-! ### The marks and what they are read from -/

/-- Two states agree on the five travel marks and on the two items that the marks are judged by. -/
structure SameMarks (s t : State) : Prop where
  datum : t.trc.datum = s.trc.datum
  pulses : t.trc.pulses = s.trc.pulses
  hw : t.trc.hw = s.trc.hw
  nextVolume : t.trc.nextVolume = s.trc.nextVolume
  nextScan : t.trc.nextScan = s.trc.nextScan
  ppm : t.geo.ppm = s.geo.ppm
  scanPitch : t.tun.scanPitch = s.tun.scanPitch

theorem SameMarks.trans {s t u : State} (h : SameMarks s t) (g : SameMarks t u) : SameMarks s u :=
  ⟨g.datum.trans h.datum, g.pulses.trans h.pulses, g.hw.trans h.hw, g.nextVolume.trans h.nextVolume,
    g.nextScan.trans h.nextScan, g.ppm.trans h.ppm, g.scanPitch.trans h.scanPitch⟩

/-- An operation that leaves TRC and MPR alone leaves the marks. -/
theorem SameMarks.of_frame {s t : State} (ht : t.trc = s.trc) (hm : t.mpr = s.mpr) : SameMarks s t := by
  constructor <;> simp only [State.geo, State.tun, ht, hm]

theorem SameMarks.chainage {s t : State} (h : SameMarks s t) : t.chainage = s.chainage := by
  unfold State.chainage Trc.rawChainage
  rw [h.ppm, h.datum, h.pulses]

theorem SameMarks.travelSound {s t : State} (h : SameMarks s t) (hs : s.travelSound) : t.travelSound := by
  unfold State.travelSound at hs ⊢
  rw [h.chainage, h.datum, h.pulses, h.hw, h.nextVolume, h.nextScan, h.ppm, h.scanPitch]
  exact hs

theorem clampChainage_of_ok {c : Int} (h : chainageOk c = true) : clampChainage c = c := by
  simp only [chainageOk, within, Bool.and_eq_true, decide_eq_true_eq] at h
  simp only [clampChainage, clamp]
  rw [if_neg (by omega), if_neg (by omega)]

/-- Without a counted pulse the chainage is the datum, whatever travel ppm is (R4). -/
theorem chainage_of_no_pulses {s : State} (h : s.trc.pulses = 0) : s.chainage = clampChainage s.trc.datum := by
  unfold State.chainage Trc.rawChainage
  cases s.geo.ppm <;> simp [h, truncDiv]

/-! ### A rise of the high-water mark (R9 to R11) -/

/-- The next scan boundary is the first multiple of the pitch from the datum above hw (R11). -/
theorem nextScanBoundary_spec (datum hw : Int) {pitch : Int} (hp : 0 < pitch) :
    hw < nextScanBoundary datum pitch hw ∧ nextScanBoundary datum pitch hw - pitch ≤ hw ∧
    pitch ∣ nextScanBoundary datum pitch hw - datum := by
  have hlt := Int.lt_ediv_add_one_mul_self (hw - datum) hp
  have hle := Int.ediv_mul_le (hw - datum) hp.ne'
  unfold nextScanBoundary
  refine ⟨by omega, by rw [Int.add_mul] at *; omega, ⟨(hw - datum) / pitch + 1, by ring⟩⟩

/-- The volume steps that a rise of hw to `c` issues: one for each boundary of 100 mm reached (R10). -/
def stepsReached (nextVolume c : Int) : Nat := if nextVolume ≤ c then ((c - nextVolume) / 100 + 1).toNat else 0

theorem stepsReached_spec (nextVolume c : Int) :
    c < nextVolume + 100 * stepsReached nextVolume c ∧
    (0 < stepsReached nextVolume c → nextVolume + 100 * stepsReached nextVolume c - 100 ≤ c) := by
  unfold stepsReached
  split <;> omega

/-- hw is raised by a greater chainage alone, and what it then issues (R9, R10, R11). -/
theorem raiseHw_eq (s : State) :
    raiseHw s = if s.chainage ≤ s.trc.hw then s else { s with trc := { s.trc with
      hw := s.chainage
      nextVolume := s.trc.nextVolume + 100 * stepsReached s.trc.nextVolume s.chainage
      volumeDue := s.trc.volumeDue + stepsReached s.trc.nextVolume s.chainage
      nextScan := if s.trc.nextScan ≤ s.chainage then nextScanBoundary s.trc.datum s.tun.scanPitch s.chainage
        else s.trc.nextScan
      scanDue := if s.trc.nextScan ≤ s.chainage then s.trc.scanDue ++ [s.chainage] else s.trc.scanDue } } := by
  unfold raiseHw stepsReached
  simp only [decide_eq_true_eq]

@[simp] theorem raiseHw_chainage (s : State) : (raiseHw s).chainage = s.chainage := by
  rw [raiseHw_eq]
  split <;> rfl

/-- After a rise of hw the marks are sound, where all but the place of the chainage was (R9 to R11). -/
theorem raiseHw_travelSound {s : State} (hd : chainageOk s.trc.datum = true) (hp : 20 ≤ s.tun.scanPitch)
    (hv : s.trc.hw < s.trc.nextVolume) (hs : s.trc.hw < s.trc.nextScan)
    (hg : (s.trc.nextVolume - s.trc.datum) % 100 = 0) (hu : s.geo.ppm = none → s.trc.pulses = 0) :
    (raiseHw s).travelSound := by
  rw [raiseHw_eq]
  split
  next hle => exact ⟨hd, hp, hle, hv, hs, hg, hu⟩
  next hgt =>
    refine ⟨hd, hp, le_refl s.chainage, (stepsReached_spec _ _).1, ?_, ?_, hu⟩
    · change s.chainage < if s.trc.nextScan ≤ s.chainage then _ else _
      split
      · exact (nextScanBoundary_spec _ _ (by omega)).1
      · omega
    · change (s.trc.nextVolume + 100 * _ - s.trc.datum) % 100 = 0
      omega

/-! ### A qualified travel pulse (R3, R4) -/

/-- The change of the pulse count that the direction line gives (R3). -/
def direction (forward : Bool) : Int := if forward then 1 else -1

/-- A counted pulse before hw follows it: the counts moved, and the flag set where the chainage is clamped (R3, R4). -/
def pulseCounted (forward : Bool) (s : State) : State :=
  let t := countTravel forward (setHigh .travel none s)
  setFlagIf t.saturates .chainageLimit t

theorem travelPulse_discarded (forward : Bool) {s : State} (h : s.geo.ppm = none) :
    travelPulse forward s = setHigh .travel none s := if_pos h

theorem travelPulse_withheld {forward : Bool} {s : State} (h : s.geo.ppm ≠ none) (hw : s.withheld forward = true) :
    travelPulse forward s = setFlag .chainageLimit (setHigh .travel none s) :=
  (if_neg h).trans (if_pos hw)

theorem travelPulse_counted {forward : Bool} {s : State} (h : s.geo.ppm ≠ none) (hw : ¬s.withheld forward = true) :
    travelPulse forward s = reformDisposition (raiseHw (pulseCounted forward s)) :=
  (if_neg h).trans (if_neg hw)

@[simp] theorem pulseCounted_trc (forward : Bool) (s : State) :
    (pulseCounted forward s).trc = { s.trc with
      highTravel := none
      pulses := s.trc.pulses + direction forward
      travelInterval := s.trc.travelInterval + direction forward } := by
  simp only [pulseCounted, setFlagIf_frame]
  rfl

@[simp] theorem pulseCounted_mpr (forward : Bool) (s : State) : (pulseCounted forward s).mpr = s.mpr := by
  simp [pulseCounted]

/-- The pulse is discarded, withheld or counted. -/
theorem travelPulse_cases (forward : Bool) (s : State) :
    (s.geo.ppm = none ∧ travelPulse forward s = setHigh .travel none s) ∨
    (s.geo.ppm ≠ none ∧ s.withheld forward = true ∧
      travelPulse forward s = setFlag .chainageLimit (setHigh .travel none s)) ∨
    (s.geo.ppm ≠ none ∧ s.withheld forward = false ∧
      travelPulse forward s = reformDisposition (raiseHw (pulseCounted forward s))) := by
  by_cases hp : s.geo.ppm = none
  · exact .inl ⟨hp, travelPulse_discarded forward hp⟩
  · by_cases hw : s.withheld forward = true
    · exact .inr (.inl ⟨hp, hw, travelPulse_withheld hp hw⟩)
    · exact .inr (.inr ⟨hp, eq_false_of_ne_true hw, travelPulse_counted hp hw⟩)

/-! ### The owners' acts on the marks -/

theorem reformDisposition_sameMarks (s : State) : SameMarks s (reformDisposition s) := .of_frame (by simp) (by simp)

theorem setFlag_sameMarks (f : Flag) (s : State) : SameMarks s (setFlag f s) := .of_frame (by simp) (by simp)

theorem setHigh_sameMarks (e : Encoder) (v : Option Int) (s : State) : SameMarks s (setHigh e v s) := by
  cases e <;> constructor <;> rfl

theorem travelPulse_travelSound (forward : Bool) {s : State} (h : s.travelSound) : (travelPulse forward s).travelSound := by
  obtain ⟨-, e⟩ | ⟨-, -, e⟩ | ⟨hppm, -, e⟩ := travelPulse_cases forward s <;> rw [e]
  · exact (setHigh_sameMarks .travel none s).travelSound h
  · exact ((setHigh_sameMarks .travel none s).trans (setFlag_sameMarks _ _)).travelSound h
  · obtain ⟨hd, hp, -, hv, hs, hg, -⟩ := h
    refine (reformDisposition_sameMarks _).travelSound (raiseHw_travelSound ?_ ?_ ?_ ?_ ?_ ?_) <;>
      simp only [State.geo, State.tun, pulseCounted_trc, pulseCounted_mpr]
    · exact hd
    · exact hp
    · exact hv
    · exact hs
    · exact hg
    · exact fun hn => absurd hn hppm

theorem setDatum_travelSound {c : Int} (hc : chainageOk c = true) {s : State} (h : s.travelSound) :
    (setDatum c s).travelSound := by
  obtain ⟨-, hp, -⟩ := h
  refine (reformDisposition_sameMarks _).travelSound ⟨hc, hp, ?_, ?_, ?_, ?_, fun _ => rfl⟩
  · rw [chainage_of_no_pulses rfl]
    exact (clampChainage_of_ok hc).le
  · exact Int.lt_add_of_pos_right c (by decide)
  · exact Int.lt_add_of_pos_right c (by omega)
  · change (c + 100 - c) % 100 = 0
    omega

/-- What a row of the parameter table does to the two items that the travel marks are judged by: it keeps the pitch or writes
one of 20 or more, and it keeps travel ppm or is the geometry row of it (section 10.1). -/
theorem paramTable_marks : ∀ row ∈ paramTable, ∀ (v : Int) (p : Params), row.ok v = true →
    ((row.put v p).tun.scanPitch = p.tun.scanPitch ∨ 20 ≤ (row.put v p).tun.scanPitch) ∧
    ((row.put v p).geo.ppm = p.geo.ppm ∨ row.cls = .geometry ∧ row.get p = p.geo.ppm) := by
  simp only [paramTable, geometryRows, envelopeRows, travelPlanRows, scannerRows, loadingLinkRows, channelRows,
    calibrationRows, List.cons_append, List.nil_append, chanRows, sensorRows, List.forall_mem_cons]
  simp [geoRow, envRow, tunRow, tunRowOk, offsetRow, within]
  exact fun v p low _ => .inr low

/-- An accepted write of an item: a write of travel ppm comes before any pulse is counted, and one of the pitch is in range
(R180). -/
theorem writeItem_travelSound {row : ParamRow} (hmem : row ∈ paramTable) {v : Int} (hok : row.ok v = true) {s : State}
    (hset : ¬(row.cls = .geometry ∧ (row.get s.mpr.params).isSome)) (h : s.travelSound) :
    (writeItem row v s).travelSound := by
  obtain ⟨hpitch, hppm⟩ := paramTable_marks row hmem v s.mpr.params hok
  obtain ⟨hd, hp, hc, hv, hs, hg, hu⟩ := h
  have unset_before : (row.put v s.mpr.params).geo.ppm = s.geo.ppm ∨ s.trc.pulses = 0 := by
    refine hppm.imp_right fun ⟨hcls, hget⟩ => hu ?_
    have := mt (And.intro hcls) hset
    rwa [hget, Option.not_isSome_iff_eq_none] at this
  refine (SameMarks.of_frame (s := { s with mpr := { s.mpr with params := row.put v s.mpr.params } }) ?_ ?_).travelSound
    ⟨hd, ?_, ?_, hv, hs, hg, ?_⟩
  · simp [writeItem]
  · simp [writeItem]
  · rcases hpitch with e | low
    · exact e ▸ hp
    · exact low
  · rcases unset_before with e | e
    · exact (congrArg (fun q => clampChainage (s.trc.rawChainage q)) e).trans_le hc
    · rw [chainage_of_no_pulses e] at hc
      refine (chainage_of_no_pulses ?_).trans_le hc
      exact e
  · exact fun hn => unset_before.elim (fun e => hu (e ▸ hn)) id

theorem serveSetParam_travelSound (item : Nat) (v : Int) {s : State} (h : s.travelSound) :
    (serveSetParam item v s).1.travelSound := by
  unfold serveSetParam
  split
  next => exact h
  next row hrow =>
    split
    next => exact h
    next hset =>
      split
      next => exact (SameMarks.of_frame (by simp [refuseLocked, refuse]) (by simp [refuseLocked, refuse])).travelSound h
      next =>
        split
        next => exact h
        next hok =>
          split
          next => exact h
          next => exact writeItem_travelSound (List.mem_of_find?_eq_some hrow) (by simpa using hok) hset h

theorem serveSetDatum_travelSound (c : Int) {s : State} (h : s.travelSound) : (serveSetDatum c s).1.travelSound := by
  unfold serveSetDatum
  split
  next => exact h
  next hc =>
    split
    next => exact h
    next =>
      split
      next => exact h
      next => exact setDatum_travelSound (by simpa using hc) h

/-! ### Requests and the link -/

/-- A request other than SET_DATUM and SET_PARAM leaves the marks and the items they are judged by. -/
theorem serve_sameMarks {r : Request} (hd : ∀ c, r ≠ .setDatum c) (hp : ∀ i v, r ≠ .setParam i v) (s : State) :
    SameMarks s (serve r s).1 := by
  cases r
  case setDatum c => exact absurd rfl (hd c)
  case setParam i v => exact absurd rfl (hp i v)
  case lockEnvelope => constructor <;> rfl
  case setCalOpen x =>
    simp only [serve, serveSetCalOpen, refuseLocked]
    (repeat' split) <;> constructor <;> simp [accept, refuse, State.geo, State.tun]
  case zeroSensor x v =>
    simp only [serve, serveZeroSensor]
    (repeat' split) <;> constructor <;> rfl
  all_goals exact .of_frame (by simp [serve, refuse]) (by simp [serve, refuse])

theorem serve_travelSound (r : Request) {s : State} (h : s.travelSound) : (serve r s).1.travelSound := by
  by_cases hd : ∃ c, r = .setDatum c
  · obtain ⟨c, rfl⟩ := hd
    exact serveSetDatum_travelSound c h
  by_cases hp : ∃ i v, r = .setParam i v
  · obtain ⟨i, v, rfl⟩ := hp
    exact serveSetParam_travelSound i v h
  push Not at hd hp
  exact (serve_sameMarks hd hp s).travelSound h

theorem takeNext_travelSound {s : State} (h : s.travelSound) : (takeNext s).travelSound := by
  unfold takeNext
  split
  next q rest _ _ =>
    exact SameMarks.travelSound (.of_frame rfl rfl)
      (serve_travelSound q.req (s := { s with clp := { s.clp with buffer := rest } }) h)
  next => exact h

theorem startTx_travelSound {s : State} (h : s.travelSound) : (startTx s).travelSound :=
  (SameMarks.of_frame (by simp) (by simp)).travelSound h

theorem pump_travelSound {s : State} (h : s.travelSound) : (pump s).travelSound :=
  takeNext_travelSound (startTx_travelSound (takeNext_travelSound h))

theorem offerRequest_travelSound (tag : Byte) (r : Request) {s : State} (h : s.travelSound) :
    (offerRequest tag r s).travelSound := by
  unfold offerRequest
  refine pump_travelSound (SameMarks.travelSound (.of_frame ?_ ?_) h) <;> split <;> simp

theorem applyLinkEvent_travelSound (e : RxEvent) {s : State} (h : s.travelSound) : (applyLinkEvent e s).travelSound := by
  cases e with
  | nothing => exact h
  | lengthError => exact SameMarks.travelSound (.of_frame rfl rfl) h
  | crcError => exact SameMarks.travelSound (.of_frame rfl rfl) h
  | frame f =>
    simp only [applyLinkEvent, takeLinkFrame]
    split
    · exact SameMarks.travelSound (.of_frame rfl rfl) h
    · exact offerRequest_travelSound _ _ (SameMarks.travelSound (.of_frame (by simp) (by simp)) h)

theorem linkByte_travelSound {s : State} (h : s.travelSound) (b : Byte) : (linkByte s b).travelSound :=
  applyLinkEvent_travelSound _ (SameMarks.travelSound (.of_frame rfl rfl) h)

theorem linkBytes_travelSound (bytes : List Byte) {s : State} (h : s.travelSound) :
    (bytes.foldl linkByte s).travelSound := by
  induction bytes generalizing s with
  | nil => exact h
  | cons b rest ih => exact ih (linkByte_travelSound h b)

/-! ### Every command and every step -/

theorem countRejected_sameMarks (e : Encoder) (s : State) : SameMarks s (countRejected e s) := by
  cases e <;> constructor <;> rfl

theorem endHighPhase_sameMarks (e : Encoder) (highUs : Nat) (s : State) : SameMarks s (endHighPhase e highUs s) := by
  unfold endHighPhase
  dsimp only
  split
  · exact (setHigh_sameMarks e none s).trans (countRejected_sameMarks e _)
  · exact setHigh_sameMarks e none s

theorem beltPulse_sameMarks (s : State) : SameMarks s (beltPulse s) := by
  unfold beltPulse
  dsimp only
  split <;> constructor <;> rfl

theorem speedInterval_sameMarks (s : State) : SameMarks s (speedInterval s) :=
  SameMarks.trans (t := measureSpeeds s) (by constructor <;> rfl)
    (.of_frame (by simp [speedInterval]) (by simp))

/-- A volume step handled leaves of TRC all but the count of steps that are due. -/
@[simp] theorem volumeStep_trc (s : State) :
    (volumeStep s).trc = { s.trc with volumeDue := s.trc.volumeDue - 1 } := by
  simp only [volumeStep]
  (repeat' split) <;> simp

/-- A belt step handled leaves of TRC all but the count of steps that are due. -/
@[simp] theorem beltStep_trc (s : State) : (beltStep s).trc = { s.trc with beltDue := s.trc.beltDue - 1 } := by
  simp only [beltStep]
  (repeat' split) <;> simp

/-- A scan trigger handled leaves of TRC all but the list of triggers that are due. -/
@[simp] theorem scanTrigger_trc (c : Int) (s : State) :
    (scanTrigger c s).trc = { s.trc with scanDue := s.trc.scanDue.erase c } := by
  simp only [scanTrigger]
  (repeat' split) <;> simp

theorem tick_sameMarks (s : State) : SameMarks s (tick s) := by constructor <;> rfl

theorem reset_travelSound : State.reset.travelSound := by
  unfold State.travelSound
  decide

theorem powerOn_travelSound (s : State) : (powerOn s).travelSound :=
  (SameMarks.of_frame (by simp [powerOn, State.base, State.reset]) (by simp [powerOn, State.base, State.reset])).travelSound
    reset_travelSound

/-- An event row keeps the travel marks sound: beside the travel pulse and the link's bytes it moves no mark. -/
theorem exec_event_travelSound {i : Instr} (hq : queuedOf i = none) {s : State} (h : s.travelSound) :
    ∃ t, exec i s = .next t ∧ t.travelSound := by
  have kept {u : State} (g : SameMarks s u) : (startTx u).travelSound := startTx_travelSound (g.travelSound h)
  have framed {u : State} (ht : u.trc = s.trc) (hm : u.mpr = s.mpr) : (startTx u).travelSound := kept (.of_frame ht hm)
  cases i <;> cases hq
  case powerOnReset => exact ⟨_, rfl, powerOn_travelSound s⟩
  case qualifiedTravelPulse forward => exact ⟨_, rfl, startTx_travelSound (travelPulse_travelSound forward h)⟩
  case qualifiedBeltPulse => exact ⟨_, rfl, kept (beltPulse_sameMarks s)⟩
  case pulseRejected e highUs => exact ⟨_, rfl, kept (endHighPhase_sameMarks e highUs s)⟩
  case risingEdge e => exact ⟨_, rfl, kept (setHigh_sameMarks e _ s)⟩
  case speedInterval => exact ⟨_, rfl, kept (speedInterval_sameMarks s)⟩
  case volumeStep => exact ⟨_, rfl, kept (by constructor <;> simp [State.geo, State.tun])⟩
  case beltStep => exact ⟨_, rfl, kept (by constructor <;> simp [State.geo, State.tun])⟩
  case scanTrigger c => exact ⟨_, rfl, kept (by constructor <;> simp [State.geo, State.tun])⟩
  case validFrame bytes => exact ⟨_, rfl, startTx_travelSound (linkBytes_travelSound bytes h)⟩
  case frameStart => exact ⟨_, rfl, startTx_travelSound (linkByte_travelSound h startByte)⟩
  case frameLengthError b => exact ⟨_, rfl, startTx_travelSound (linkByte_travelSound h b)⟩
  case transmitEnd => exact ⟨_, rfl, pump_travelSound (SameMarks.travelSound (.of_frame rfl rfl) h)⟩
  case gapDiscard =>
    refine ⟨_, rfl, framed ?_ ?_⟩ <;> unfold linkGap <;> split <;> simp
  all_goals exact ⟨_, rfl, framed (by simp) (by simp)⟩

theorem exec_travelSound {i : Instr} {s t : State} (h : s.travelSound) (e : exec i s = .next t) : t.travelSound := by
  have next_inj {u : State} (hu : exec i s = .next u) (g : u.travelSound) : t.travelSound := by
    cases hu.symm.trans e
    exact g
  cases hq : queuedOf i with
  | none =>
    obtain ⟨u, hu, g⟩ := exec_event_travelSound hq h
    exact next_inj hu g
  | some q => exact next_inj (exec_request hq s) (offerRequest_travelSound q.tag q.req h)

/-- A step takes the front command, the event that is due, or a millisecond. -/
theorem step_cases {s t : State} (e : step s = .next t) :
    (∃ i rest, s.pending = i :: rest ∧ exec i { s with pending := rest } = .next t) ∨
    (s.pending = [] ∧ ∃ i, dueEvent s = some i ∧ exec i s = .next t) ∨
    (s.pending = [] ∧ dueEvent s = none ∧ t = tick s) := by
  unfold step at e
  split at e
  next i rest hp => exact .inl ⟨i, rest, hp, e⟩
  next hp =>
    unfold idle at e
    split at e
    next i hi => exact .inr (.inl ⟨hp, i, hi, e⟩)
    next hi =>
      cases e
      exact .inr (.inr ⟨hp, hi, rfl⟩)

/-- Settles O59: every command and every millisecond keeps the travel marks. -/
theorem travelMarksKept : Obligations.TravelMarksKept := by
  intro s t h e
  obtain ⟨i, rest, -, e⟩ | ⟨-, i, -, e⟩ | ⟨-, -, rfl⟩ := step_cases e
  · exact exec_travelSound (s := { s with pending := rest }) (SameMarks.travelSound (.of_frame rfl rfl) h) e
  · exact exec_travelSound h e
  · exact (tick_sameMarks s).travelSound h

end Sys2Proof.Machine
end

section
/-! Travel measurement (chapter 1): the pulse qualifiers, a qualified pulse of either encoder, new ground and SET_DATUM. -/

namespace Sys2Proof.Machine

/-! ### Reports of a set flag and of a change of TRC -/

/-- A set flag changes CST alone, or it fires the arm and queues FAULT (R132, R138). -/
theorem setFlag_cases (f : Flag) (s : State) :
    (∃ c, setFlag f s = { s with cst := c } ∧ c.captures = s.cst.captures) ∨
    ∃ c, setFlag f s = { s with cst := c, clp := (queueReport .fault s).clp } := by
  unfold setFlag
  split
  next => exact .inl ⟨s.cst, rfl, rfl⟩
  next =>
    dsimp only
    split
    next =>
      simp only [captureFault, queueReport_eq]
      exact .inr ⟨_, rfl⟩
    next => exact .inl ⟨_, rfl, rfl⟩

/-- Where CLP, both channels and what the reports follow have stayed, no report is due. -/
theorem reportsMade_of_kept {m : BitVec 9} {s t : State} (hclp : t.clp = s.clp) (hL : t.chL = s.chL) (hR : t.chR = s.chR)
    (hm : t.mlc.causes = s.mlc.causes) (hv : t.tqs.conveyor = s.tqs.conveyor) (hs : t.cst.captures = s.cst.captures)
    (hf : t.tqs.fullCount = s.tqs.fullCount) (hp : t.tqs.permit = s.tqs.permit) : reportsMade m s t :=
  reportsMade_of_same (reportsAdded_of_eq m hclp) (fun x => by cases x <;> simp [hL, hR]) hm hv hs hf hp

/-- A capture queues FAULT (R139). -/
theorem reportsMade_setFlag (f : Flag) {m : BitVec 9} (hm : ReportKind.fault.bit &&& m = ReportKind.fault.bit) (s : State) :
    reportsMade m s (setFlag f s) := by
  obtain ⟨c, e, hc⟩ | ⟨c, e⟩ := setFlag_cases f s <;> rw [e]
  · exact reportsMade_of_kept rfl rfl rfl rfl rfl hc rfl rfl
  · refine ⟨reportsAdded_queueReport .fault hm s, ?_, ?_, fun _ en => queueReport_pending .fault s en, ?_, ?_⟩
    · rintro (⟨x, hx⟩ | hx | hx)
      · cases x <;> simp [State.ch] at hx
      · exact absurd rfl hx
      · exact absurd rfl hx
    · rintro ⟨x, hx⟩
      cases x <;> simp [State.ch] at hx
    · exact fun hx => absurd rfl hx
    · exact fun hx => absurd rfl hx

theorem reportsMade_setFlagIf (b : Bool) (f : Flag) {m : BitVec 9} (hm : ReportKind.fault.bit &&& m = ReportKind.fault.bit)
    (s : State) : reportsMade m s (setFlagIf b f s) := by
  cases b
  · exact reportsMade_of_kept rfl rfl rfl rfl rfl rfl rfl rfl
  · exact reportsMade_setFlag f hm s

/-- No report follows a change of TRC. -/
theorem reportsMade_trc (m : BitVec 9) (s : State) (x : Trc) : reportsMade m s { s with trc := x } :=
  reportsMade_of_kept rfl rfl rfl rfl rfl rfl rfl rfl

/-! ### The qualifiers and the belt (R1, R2, R7, R8) -/

/-- A high phase that has lasted less than two of the periods recorded at its edge is counted, staying at 65,535 (R1). -/
theorem endHighPhase_travel {s : State} {period : Int} (h : s.trc.highTravel = some period) (highUs : Nat) :
    endHighPhase .travel highUs s = { s with trc := { s.trc with
      highTravel := none
      rejectedTravel := if (highUs : Int) < 2 * period then satInc 65535 s.trc.rejectedTravel else s.trc.rejectedTravel } } := by
  simp only [endHighPhase, Trc.high, h, Option.getD_some]
  split <;> rfl

theorem endHighPhase_belt {s : State} {period : Int} (h : s.trc.highBelt = some period) (highUs : Nat) :
    endHighPhase .belt highUs s = { s with trc := { s.trc with
      highBelt := none
      rejectedBelt := if (highUs : Int) < 2 * period then satInc 65535 s.trc.rejectedBelt else s.trc.rejectedBelt } } := by
  simp only [endHighPhase, Trc.high, h, Option.getD_some]
  split <;> rfl

/-- A saturating count taken on a condition, with its three cases side by side. -/
theorem ite_satInc (p : Prop) [Decidable p] (limit n : Nat) :
    (if p then satInc limit n else n) = if p ∧ n < limit then n + 1 else if p then limit else n := by
  unfold satInc
  split_ifs <;> tauto

/-- The belt steps that a belt travel of `d` issues: one for each boundary of 10 mm reached (R8). -/
def beltStepsReached (nextBelt d : Nat) : Nat := if nextBelt ≤ d then (d - nextBelt) / 10 + 1 else 0

theorem beltStepsReached_spec (nextBelt d : Nat) :
    d < nextBelt + 10 * beltStepsReached nextBelt d ∧
    (0 < beltStepsReached nextBelt d → nextBelt + 10 * beltStepsReached nextBelt d - 10 ≤ d) := by
  unfold beltStepsReached
  split <;> omega

theorem beltPulse_discarded {s : State} (h : s.geo.bppm = none ∨ s.trc.pb = Config.counterMax) :
    beltPulse s = { s with trc := { s.trc with highBelt := none } } := if_pos h

theorem beltTravel_eq {s : State} {q : Int} (h : s.geo.bppm = some q) :
    s.beltTravel = (Int.tdiv ((s.trc.pb : Int) * 1000) q).toNat := by
  simp only [State.beltTravel, h, truncDiv]

theorem beltPulse_counted {s : State} {q : Int} (hq : s.geo.bppm = some q) (hmax : s.trc.pb ≠ Config.counterMax) :
    let d := (Int.tdiv (((s.trc.pb : Int) + 1) * 1000) q).toNat
    beltPulse s = { s with trc := { s.trc with
      highBelt := none
      pb := s.trc.pb + 1
      beltInterval := s.trc.beltInterval + 1
      beltDue := s.trc.beltDue + beltStepsReached s.trc.nextBelt d
      nextBelt := s.trc.nextBelt + 10 * beltStepsReached s.trc.nextBelt d } } := by
  have counts : ¬(s.geo.bppm = none ∨ s.trc.pb = Config.counterMax) := by simp [hq, hmax]
  refine (if_neg counts).trans ?_
  simp only [State.beltTravel, State.geo, setHigh] at hq ⊢
  simp only [hq]
  rfl

/-- Settles O8: each pulse row as an equation on TRC, and the belt steps issued by the two bounds of the boundary reached. -/
theorem qualifiersAndBelt : Obligations.QualifiersAndBelt := by
  refine ⟨fun s highUs period => ⟨rfl, rfl, fun h => ?_, fun h => ?_⟩, fun s => ⟨fun h => ?_, fun q hq hmax => ?_⟩⟩
  · rw [← ite_satInc, ← endHighPhase_travel h]
    rfl
  · rw [← ite_satInc, ← endHighPhase_belt h]
    rfl
  · rw [← beltPulse_discarded h]
    rfl
  · refine ⟨beltPulse s, _, rfl, beltPulse_counted hq hmax, ?_⟩
    have travelled : (beltPulse s).beltTravel = (Int.tdiv (((s.trc.pb : Int) + 1) * 1000) q).toNat := by
      rw [beltTravel_eq (q := q) (by simpa [State.geo] using hq), beltPulse_counted hq hmax]
      rfl
    refine ⟨travelled, ?_⟩
    rw [travelled, beltPulse_counted hq hmax]
    exact beltStepsReached_spec _ _

/-! ### A qualified travel pulse (R3, R4, R9) -/

theorem withheld_iff (s : State) (forward : Bool) :
    s.withheld forward = true ↔ s.chainage = if forward then 1000000000 else -1000000000 := by
  cases forward <;> exact decide_eq_true_iff

/-- A counted pulse as the change of TRC and the flag of a clamped chainage (R3, R4). -/
theorem pulseCounted_eq (forward : Bool) {s : State} {ppm : Int} (h : s.geo.ppm = some ppm) :
    pulseCounted forward s =
      setFlagIf (!chainageOk (s.trc.datum + Int.tdiv ((s.trc.pulses + direction forward) * 1000) ppm)) .chainageLimit
        { s with trc := (pulseCounted forward s).trc } := by
  rw [pulseCounted_trc]
  unfold pulseCounted State.saturates Trc.rawChainage
  simp only [State.geo, countTravel_frame, setHigh_frame] at h ⊢
  rw [h]
  rfl

theorem pulseCounted_chainage (forward : Bool) {s : State} {ppm : Int} (h : s.geo.ppm = some ppm) :
    (pulseCounted forward s).chainage =
      clampChainage (s.trc.datum + Int.tdiv ((s.trc.pulses + direction forward) * 1000) ppm) := by
  simp only [State.chainage, Trc.rawChainage, State.geo, pulseCounted_trc, pulseCounted_mpr] at h ⊢
  rw [h]
  rfl

theorem raiseHw_only_trc (s : State) : raiseHw s = { s with trc := (raiseHw s).trc } := by
  rw [raiseHw_eq]
  split <;> rfl

/-- A rise of hw moves hw to the greater chainage, the two boundaries and what they issue (R9 to R11). -/
theorem raiseHw_trc (s : State) :
    (raiseHw s).trc = { s.trc with
      hw := max s.trc.hw s.chainage
      nextVolume := (raiseHw s).trc.nextVolume
      volumeDue := (raiseHw s).trc.volumeDue
      nextScan := (raiseHw s).trc.nextScan
      scanDue := (raiseHw s).trc.scanDue } := by
  rw [raiseHw_eq]
  split
  next hle => rw [max_eq_left hle]
  next hgt => rw [max_eq_right (by omega)]

/-- Settles O9: the pulse is discarded, withheld, or counted and handed to hw and to the disposition at the drum. -/
theorem Settled.travelPulse : Obligations.TravelPulse := by
  intro s forward
  refine ⟨fun h => ?_, fun ppm h hlimit => ?_, fun ppm d h hlimit hd => ?_⟩
  · exact congrArg (fun t => Host.Outcome.next (startTx t)) (travelPulse_discarded forward h)
  · have e := travelPulse_withheld (forward := forward) (by simp [h]) ((withheld_iff s forward).2 hlimit)
    refine ⟨Machine.travelPulse forward s, rfl, ?_, ?_, ?_⟩ <;> rw [e]
    · exact setFlag_flags _ _
    · exact (reportsMade_trc _ s _).trans (reportsMade_setFlag _ (by decide) _)
    · apply State.eq_of_fields <;> simp [setHigh]
  · obtain rfl : d = direction forward := hd
    have e := travelPulse_counted (forward := forward) (by simp [h]) (mt (withheld_iff s forward).1 hlimit)
    have flagged := pulseCounted_eq forward h
    refine ⟨Machine.travelPulse forward s, raiseHw (pulseCounted forward s), rfl, ?_, ?_, ?_, ?_, ?_, ?_, ?_⟩
    · rw [e]
      exact reformDisposition_reformed _
    · apply State.eq_of_fields <;> simp [pulseCounted]
    · rw [raiseHw_only_trc, flagged]
      exact (reportsMade_trc _ s _).trans ((reportsMade_setFlagIf _ _ (by decide) _).trans (reportsMade_trc _ _ _))
    · rw [raiseHw_trc, raiseHw_chainage, pulseCounted_trc]
    · rw [raiseHw_chainage, pulseCounted_chainage forward h]
    · intro hok
      rw [raiseHw_only_trc, flagged, hok]
      exact ⟨rfl, rfl⟩
    · intro hok
      rw [raiseHw_only_trc, flagged, hok]
      exact setFlag_flags _ _

/-! ### What new ground issues (R10, R11) -/

/-- What the change of TRC from `a` to `b` has issued for the ground that hw has gained, under a scan pitch (R10, R11). -/
def groundIssued (pitch : Int) (a b : Trc) : Prop :=
  a.volumeDue ≤ b.volumeDue ∧
  b.nextVolume = a.nextVolume + 100 * ((b.volumeDue : Int) - a.volumeDue) ∧
  b.hw < b.nextVolume ∧ (a.volumeDue < b.volumeDue → b.nextVolume - 100 ≤ b.hw) ∧
  (b.hw < a.nextScan → b.scanDue = a.scanDue ∧ b.nextScan = a.nextScan) ∧
  (a.nextScan ≤ b.hw →
    b.scanDue = a.scanDue ++ [b.hw] ∧ b.hw < b.nextScan ∧ b.nextScan - pitch ≤ b.hw ∧ pitch ∣ b.nextScan - a.datum)

/-- Where hw and what it issues have stayed, nothing was to be issued. -/
theorem groundIssued_of_same (pitch : Int) {a b : Trc} (hv : a.hw < a.nextVolume) (hs : a.hw < a.nextScan)
    (h : b.hw = a.hw ∧ b.nextVolume = a.nextVolume ∧ b.volumeDue = a.volumeDue ∧ b.nextScan = a.nextScan ∧
      b.scanDue = a.scanDue) : groundIssued pitch a b := by
  obtain ⟨e1, e2, e3, e4, e5⟩ := h
  unfold groundIssued
  rw [e1, e2, e3, e4, e5]
  exact ⟨le_refl _, by simp, hv, fun hlt => absurd hlt (lt_irrefl _), fun _ => ⟨rfl, rfl⟩,
    fun hle => absurd hs (not_lt.2 hle)⟩

theorem raiseHw_groundIssued {s : State} (hp : 0 < s.tun.scanPitch) (hv : s.trc.hw < s.trc.nextVolume)
    (hs : s.trc.hw < s.trc.nextScan) : groundIssued s.tun.scanPitch s.trc (raiseHw s).trc := by
  rw [raiseHw_eq]
  split
  next => exact groundIssued_of_same _ hv hs ⟨rfl, rfl, rfl, rfl, rfl⟩
  next =>
    obtain ⟨above, reached⟩ := stepsReached_spec s.trc.nextVolume s.chainage
    refine ⟨Nat.le_add_right _ _, ?_, above, fun hlt => reached (by simpa using hlt), fun hlt => ?_, fun hle => ?_⟩
    · push_cast
      ring
    · exact ⟨if_neg (not_le.2 hlt), if_neg (not_le.2 hlt)⟩
    · simp only [if_pos hle]
      exact ⟨trivial, nextScanBoundary_spec _ _ hp⟩

/-- Settles O10: a pulse that is not counted leaves hw, and one that is raises it. -/
theorem newGroundIssues : Obligations.NewGroundIssues := by
  intro s t forward hp hv hs e
  change groundIssued s.tun.scanPitch s.trc t.trc
  cases e
  simp only [startTx_frame]
  obtain ⟨-, e⟩ | ⟨-, -, e⟩ | ⟨-, -, e⟩ := travelPulse_cases forward s <;> rw [e]
  · exact groundIssued_of_same _ hv hs ⟨rfl, rfl, rfl, rfl, rfl⟩
  · simp only [setFlag_frame]
    exact groundIssued_of_same _ hv hs ⟨rfl, rfl, rfl, rfl, rfl⟩
  · simp only [reformDisposition_frame]
    have h := raiseHw_groundIssued (s := pulseCounted forward s) (by simpa [State.tun] using hp) (by simpa using hv)
      (by simpa using hs)
    simpa only [groundIssued, State.tun, pulseCounted_trc, pulseCounted_mpr] using h

/-! ### SET_DATUM (R13, R14) -/

/-- Settles O12: under its hypotheses SET_DATUM passes each check, and the chainage is the datum with no pulse counted. -/
theorem setDatumAccepted : Obligations.SetDatumAccepted := by
  intro s tag c free low high hL hR idle
  have inRange : chainageOk c = true := by simp [chainageOk, within, Config.chainageLimit, low, high]
  have served : serveSetDatum c s = accept [] (setDatum c s) := by
    simp [serveSetDatum, inRange, State.anyAuto, hL, hR, State.splicing, idle]
  refine ⟨setDatum c s, ?_, ?_, reformDisposition_reformed _⟩
  · rw [exec_request_free (q := ⟨tag, .setDatum c⟩) rfl free]
    simp only [serve, served]
    rfl
  · rw [chainage_of_no_pulses] <;> simp only [setDatum, reformDisposition_frame]
    exact clampChainage_of_ok inRange

end Sys2Proof.Machine
end

section
/-! The end of a speed interval (R6, R166, R172, R173): the speeds, the stall count and the belt speed command. -/

namespace Sys2Proof.Machine

/-! ### The stall count and the command -/

/-- The command that TQS forms for the conveyor's state (R166, R172). -/
def State.formedCommand (s : State) : Int :=
  match s.tqs.conveyor with
  | .running => s.runCommand
  | .topping => s.toppingCommand
  | .stopped | .waiting | .hold => 0

theorem formCommand_eq (s : State) : formCommand s = { s with tqs := { s.tqs with cmd := s.formedCommand } } := by
  unfold formCommand State.formedCommand
  cases h : s.tqs.conveyor <;> rfl

theorem runs_iff (v : Conveyor) : v.runs = true ↔ v = .running ∨ v = .topping := by
  simp [Conveyor.runs]

theorem formedCommand_of_not_runs {s : State} (h : ¬s.tqs.conveyor.runs = true) : s.formedCommand = 0 := by
  unfold State.formedCommand
  cases hv : s.tqs.conveyor <;> simp_all [Conveyor.runs]

/-- The command of RUNNING: the discharge speed for the last parcel rounded up, then held within its limits (R172). -/
theorem runCommand_spec (s : State) {cb : Int} (hcb : s.geo.cb = some cb) (hpos : 0 < cb) :
    ∃ v q, q = Int.tdiv ((if s.lifted then 0 else (s.load.lastParcel : Int)) * max s.trc.advance 0) 100 ∧
      (v - 1) * cb < q * 1000 ∧ q * 1000 ≤ v * cb ∧ s.runCommand = min (max v s.tun.vbMin) s.env.vbMax := by
  have speed : (if 0 < s.trc.advance then s.trc.advance else 0) = max s.trc.advance 0 := by
    split <;> omega
  refine ⟨_, _, rfl, ?_, ?_, by
    simp only [State.runCommand, speed, hcb, Option.getD_some, truncDiv]; rfl⟩
  all_goals
    generalize Int.tdiv _ 100 = q
    have hle := Int.ediv_mul_le (q * 1000 + (cb - 1)) hpos.ne'
    have hlt := Int.lt_ediv_add_one_mul_self (q * 1000 + (cb - 1)) hpos
    rw [Int.add_mul] at hlt
  · rw [Int.sub_mul]
    omega
  · omega

/-! ### The three outcomes of the stall test (R173) -/

/-- The conveyor runs on a belt that has stood still for the interval just measured. -/
def State.beltStands (s : State) : Prop := s.tqs.conveyor.runs = true ∧ s.trc.beltSpeed = 0

theorem keepStall_rests {s : State} (h : ¬s.beltStands) : keepStall s = { s with tqs := { s.tqs with stall := 0 } } :=
  if_neg h

theorem keepStall_counts {s : State} (h : s.beltStands) (hn : s.tqs.stall < 19) :
    keepStall s = { s with tqs := { s.tqs with stall := s.tqs.stall + 1 } } :=
  (if_pos h).trans (if_neg (by omega))

theorem keepStall_stalls {s : State} (h : s.beltStands) (hn : 19 ≤ s.tqs.stall) :
    keepStall s = formPermit (stopConveyor (setFlag .stall s)) :=
  (if_pos h).trans (if_pos (by omega))

@[simp] theorem speedInterval_trc (s : State) : (speedInterval s).trc = (measureSpeeds s).trc := by
  simp [speedInterval]

/-- Without a stall the speed interval moves TRC, the command and the stall count, and nothing else (R6, R173). -/
theorem speedInterval_goes_on {s : State} (h : ¬(measureSpeeds s).beltStands ∨ s.tqs.stall < 19) :
    speedInterval s = { s with
      trc := (measureSpeeds s).trc
      tqs := { s.tqs with
        cmd := (keepStall (measureSpeeds s)).formedCommand
        stall := (speedInterval s).tqs.stall } } := by
  unfold speedInterval
  rw [formCommand_eq]
  by_cases hb : (measureSpeeds s).beltStands
  · rw [keepStall_counts hb (h.resolve_left (not_not.2 hb))]
    rfl
  · rw [keepStall_rests hb]
    rfl

/-- A stall sets its flag, stops the conveyor and forms the permit again (R173). -/
theorem speedInterval_stalls {s : State} (h : (measureSpeeds s).beltStands) (hn : 19 ≤ s.tqs.stall) :
    speedInterval s = formPermit (stopConveyor (setFlag .stall (measureSpeeds s))) := by
  unfold speedInterval
  rw [keepStall_stalls h hn, formCommand_eq, formedCommand_of_not_runs (by simp [Conveyor.runs])]
  apply State.eq_of_fields <;> simp

/-- The conveyor goes on, or it stalls. -/
theorem speedInterval_cases (s : State) :
    speedInterval s = { s with
      trc := (measureSpeeds s).trc
      tqs := { s.tqs with
        cmd := (keepStall (measureSpeeds s)).formedCommand
        stall := (speedInterval s).tqs.stall } } ∨
    ((measureSpeeds s).beltStands ∧ 19 ≤ s.tqs.stall ∧
      speedInterval s = formPermit (stopConveyor (setFlag .stall (measureSpeeds s)))) := by
  by_cases h : (measureSpeeds s).beltStands ∧ 19 ≤ s.tqs.stall
  · exact .inr ⟨h.1, h.2, speedInterval_stalls h.1 h.2⟩
  · exact .inl (speedInterval_goes_on ((not_and_or.1 h).imp_right not_le.1))

theorem speedInterval_cmd (s : State) : (speedInterval s).tqs.cmd = (keepStall (measureSpeeds s)).formedCommand := by
  unfold speedInterval
  rw [formCommand_eq]

theorem speedInterval_conveyor (s : State) :
    (speedInterval s).tqs.conveyor = (keepStall (measureSpeeds s)).tqs.conveyor := by
  unfold speedInterval
  rw [formCommand_eq]

theorem speedInterval_rests {s : State} (h : ¬(measureSpeeds s).beltStands) :
    (speedInterval s).tqs.stall = 0 ∧ (speedInterval s).tqs.conveyor = s.tqs.conveyor := by
  rw [speedInterval, formCommand_eq, keepStall_rests h]
  exact ⟨rfl, rfl⟩

theorem speedInterval_counts {s : State} (h : (measureSpeeds s).beltStands) (hn : s.tqs.stall < 19) :
    (speedInterval s).tqs.stall = s.tqs.stall + 1 ∧ (speedInterval s).tqs.conveyor = s.tqs.conveyor ∧
    (speedInterval s).cst = s.cst := by
  rw [speedInterval, formCommand_eq, keepStall_counts h hn]
  exact ⟨rfl, rfl, rfl⟩

/-- The belt stands in RUNNING or TOPPING alone, with the speed that the interval has given. -/
theorem beltStands_iff (s : State) :
    (measureSpeeds s).beltStands ↔
      (s.tqs.conveyor = .running ∨ s.tqs.conveyor = .topping) ∧ (speedInterval s).trc.beltSpeed = 0 := by
  rw [speedInterval_trc, ← runs_iff]
  rfl

/-- A conveyor that stalls has been moved out of RUNNING or TOPPING. -/
theorem stall_moves_conveyor {s : State} (hb : (measureSpeeds s).beltStands) (hn : 19 ≤ s.tqs.stall) :
    (speedInterval s).tqs.conveyor ≠ s.tqs.conveyor := by
  rw [speedInterval_stalls hb hn, formPermit_tqs, stopConveyor_tqs]
  rcases ((beltStands_iff s).1 hb).1 with h | h <;> simp [h]

/-- The belt speed command of a conveyor that runs after the interval (R172). -/
theorem speedInterval_runCommand (s : State) {cb : Int} (hcb : s.geo.cb = some cb) (hpos : 0 < cb)
    (hrun : (speedInterval s).tqs.conveyor = .running) :
    ∃ v q, q = Int.tdiv ((if s.lifted then 0 else (s.load.lastParcel : Int)) * max (speedInterval s).trc.advance 0) 100 ∧
      (v - 1) * cb < q * 1000 ∧ q * 1000 ≤ v * cb ∧ (speedInterval s).tqs.cmd = min (max v s.tun.vbMin) s.env.vbMax := by
  have h := runCommand_spec (keepStall (measureSpeeds s)) (cb := cb) (by simpa [State.geo] using hcb) hpos
  have lifted : (keepStall (measureSpeeds s)).lifted = s.lifted := by simp [State.lifted, State.anyAuto]
  rw [speedInterval_conveyor] at hrun
  rw [speedInterval_cmd, speedInterval_trc, State.formedCommand, hrun]
  simpa [State.tun, State.env, lifted] using h

theorem speedInterval_toppingCommand (s : State) (htop : (speedInterval s).tqs.conveyor = .topping) :
    (speedInterval s).tqs.cmd = min s.tun.vbMin s.env.vbMax := by
  rw [speedInterval_conveyor] at htop
  rw [speedInterval_cmd, State.formedCommand, htop]
  simp [State.toppingCommand, State.tun, State.env]

/-- A conveyor that stops queues STATE (R166). -/
theorem reportsMade_stopConveyor {m : BitVec 9} (hm : ReportKind.state.bit &&& m = ReportKind.state.bit) (s : State) :
    reportsMade m s (stopConveyor s) :=
  (reportsMade_of_kept rfl rfl rfl rfl rfl rfl rfl rfl).trans
    (reportsMade_enterConveyor .stopped 0 hm { s with tqs := { s.tqs with stall := 0 } })

/-- The reports of a speed interval are those of a stall (R166, R173, R175). -/
theorem reportsMade_speedInterval (s : State) : reportsMade 0b000010101 s (speedInterval s) := by
  obtain e | ⟨-, -, e⟩ := speedInterval_cases s <;> rw [e]
  · exact reportsMade_of_kept rfl rfl rfl rfl rfl rfl rfl rfl
  · exact (reportsMade_trc _ s _).trans ((reportsMade_setFlag .stall (by decide) _).trans
      ((reportsMade_stopConveyor (by decide) _).trans (reportsMade_formPermit (by decide) _)))

/-- What a speed interval leaves of TQS whether or not the conveyor stalls. -/
theorem speedInterval_tqs (s : State) :
    (speedInterval s).tqs = { s.tqs with
      conveyor := (speedInterval s).tqs.conveyor
      cmd := (speedInterval s).tqs.cmd
      stall := (speedInterval s).tqs.stall
      permit := (speedInterval s).tqs.permit
      reasons := (speedInterval s).tqs.reasons } := by
  obtain e | ⟨-, -, e⟩ := speedInterval_cases s
  · rw [e]
  · rw [e]
    simp

/-- Settles O11: the interval goes on, or the conveyor stalls; each clause is read off the one it speaks of. -/
theorem speedIntervalEnd : Obligations.SpeedIntervalEnd := by
  intro s
  refine ⟨speedInterval s, rfl, ?_, ?_, ?_, ?_, ?_, ?_, ?_, ?_, speedInterval_tqs s, ?_, reportsMade_speedInterval s, ?_⟩
  · exact (speedInterval_trc s).trans rfl
  · intro hr ht
    have rests : ¬(measureSpeeds s).beltStands := fun h => ((beltStands_iff s).1 h).1.elim hr ht
    refine ⟨(speedInterval_rests rests).1, ?_⟩
    rw [speedInterval_cmd]
    refine formedCommand_of_not_runs fun h => ((runs_iff _).1 ?_).elim hr ht
    rwa [← speedInterval_conveyor, (speedInterval_rests rests).2] at h
  · exact fun h0 => speedInterval_rests fun h => h0 ((beltStands_iff s).1 h).2
  · exact fun h h0 hn => speedInterval_counts ((beltStands_iff s).2 ⟨h, h0⟩) hn
  · intro h h0 hn
    rw [speedInterval_stalls ((beltStands_iff s).2 ⟨h, h0⟩) hn]
    refine ⟨by simp, by simp, by simp, ?_⟩
    simp only [formPermit_frame, stopConveyor_frame]
    exact setFlag_flags _ _
  · exact fun cb hcb hpos hrun => speedInterval_runCommand s hcb hpos hrun
  · exact speedInterval_toppingCommand s
  · intro same
    obtain e | ⟨hb, hn, -⟩ := speedInterval_cases s
    · rw [e]
      exact ⟨rfl, rfl, rfl⟩
    · exact absurd same (stall_moves_conveyor hb hn)
  · intro moved
    obtain e | ⟨-, -, e⟩ := speedInterval_cases s
    · exact absurd (by rw [e]) moved
    · rw [e]
      exact formPermit_formed _
  · apply State.eq_of_fields <;> simp

end Sys2Proof.Machine
end

section
/-! The resets (R16, R43, R75, R94, R115, R131, R141, R159, R160, R178, R188, R200, R201), the step on an empty queue, and the
invariants at the reset state. -/

namespace Sys2Proof.Machine

/-! ### The step on an empty queue -/

theorem step_of_empty {s : State} (h : s.pending = []) : step s = idle s := by
  unfold step
  rw [h]

/-- Settles O2: the due event acts by its own row, else `tick` is the millisecond written out. -/
theorem stepOnEmptyQueue : Obligations.StepOnEmptyQueue := by
  intro s h
  rw [step_of_empty h]
  unfold idle
  exact ⟨fun c hc => by rw [hc], fun hn => by rw [hn]; rfl⟩

/-! ### The reset state -/

/-- Settles O4, block by block by evaluation of the power-on values. -/
theorem resetValues : Obligations.ResetValues := by
  rintro r rfl
  refine ⟨rfl, by decide, by decide, rfl, rfl, rfl, rfl, ?_, rfl, rfl, rfl, rfl, rfl, rfl, rfl, rfl, rfl, rfl, rfl, rfl, rfl,
    rfl, rfl, rfl, rfl, rfl, rfl, ?_, rfl, rfl⟩
  · intro x
    cases x <;> exact ⟨rfl, rfl⟩
  · intro x
    cases x <;> rfl

theorem reset_volumeBalanced : State.reset.volumeBalanced := rfl

theorem reset_eStopSafe : State.reset.eStopSafe := by
  unfold State.eStopSafe
  decide

theorem reset_permitFormed : State.reset.permitFormed := ⟨rfl, rfl⟩

theorem reset_linkOrdered : State.reset.linkOrdered := by
  unfold State.linkOrdered
  decide

theorem reset_channelsSound : State.reset.channelsSound := by
  unfold State.channelsSound Channel.sound
  decide

theorem reset_planOrdered : State.reset.planOrdered := by
  unfold State.planOrdered ordered
  decide

theorem reset_trucksSound : State.reset.trucksSound := ⟨by decide, by decide, by decide, trivial⟩

/-- Settles O60. -/
theorem invariantsAtReset : Obligations.InvariantsAtReset :=
  ⟨reset_volumeBalanced, reset_eStopSafe, reset_permitFormed, reset_linkOrdered, reset_channelsSound, reset_planOrdered,
    reset_trucksSound, reset_travelSound⟩

/-! ### The warm restart (R200) -/

/-- What the blocks have left when TQS forms the permit, the last act of a warm restart (R178, R200). -/
def blocksRestarted (s : State) : State :=
  restartTqs (restartLoad (restartCst (restartScanner (restartMlc (restartChannels (restartPlt s))))))

theorem warmRestart_eq (s : State) : warmRestart s = formPermit (blocksRestarted s) := rfl

theorem warmRestart_plt (s : State) :
    (warmRestart s).plt = { s.plt with
      staging := [], splice := .idle
      lastEvent := if s.plt.splice = .idle then s.plt.lastEvent else .aborted
      disposition := (s.lookup s.drum).disposition, covered := (s.lookup s.drum).covered } := by
  simp only [warmRestart_eq, formPermit_frame]
  rfl

theorem warmRestart_ch (s : State) (x : Side) : (warmRestart s).ch x = (s.ch x).toOff := by
  cases x <;> simp only [warmRestart_eq, ch_L, ch_R, formPermit_frame] <;> rfl

theorem warmRestart_mlc (s : State) :
    (warmRestart s).mlc = { s.mlc with
      causes := ⟨false,
        !s.eStop && (s.lookup s.drum).disposition.lifts && s.target = .plan,
        !s.eStop && s.mlc.markers.any (fun k => k.state = .active)⟩
      returnDepth := none } := by
  simp only [warmRestart_eq, formPermit_frame]
  rfl

theorem warmRestart_spr (s : State) :
    (warmRestart s).spr = { s.spr.off with counters := .zero, trigNumber := 0 } := by
  simp only [warmRestart_eq, formPermit_frame]
  rfl

theorem warmRestart_chd (s : State) : (warmRestart s).chd = { s.chd.scannerOff with mode := s.tun.refMode } := by
  simp only [warmRestart_eq, formPermit_frame]
  rfl

theorem warmRestart_cst (s : State) : (warmRestart s).cst = ⟨s.cst.flags &&& Flag.lockedWrite.bit, false, none, 0⟩ := by
  simp only [warmRestart_eq, formPermit_frame]
  rfl

theorem warmRestart_load (s : State) :
    (warmRestart s).load = { s.load with vx := s.load.vx + s.beltContent, parcels := [] } := by
  simp only [warmRestart_eq, formPermit_frame]
  rfl

/-- The permit formed by the restart is what R174 gives for the state that the restart leaves (R175, R178). -/
theorem warmRestart_permit (s : State) :
    (blocksRestarted s).permitOf = (warmRestart s).permitOf ∧ (blocksRestarted s).reasonsOf = (warmRestart s).reasonsOf := by
  have formed : (warmRestart s).permitFormed := formPermit_formed _
  have written : (warmRestart s).tqs.permit = (blocksRestarted s).permitOf ∧
      (warmRestart s).tqs.reasons = (blocksRestarted s).reasonsOf := by simp [warmRestart_eq]
  exact ⟨written.1.symm.trans formed.1, written.2.symm.trans formed.2⟩

theorem warmRestart_tqs (s : State) :
    (warmRestart s).tqs = { s.tqs with
      trucks := [], conveyor := .stopped, cmd := 0, stall := 0, lastFull := none
      permit := (warmRestart s).permitOf, reasons := (warmRestart s).reasonsOf } := by
  rw [← (warmRestart_permit s).1, ← (warmRestart_permit s).2, warmRestart_eq, formPermit_tqs]
  rfl

theorem warmRestart_clp (s : State) :
    (warmRestart s).clp = { s.clp with waiting :=
      if (warmRestart s).permitOf = s.tqs.permit then s.clp.waiting
      else s.clp.waiting ||| (ReportKind.permit.bit &&& s.clp.enabled) } := by
  rw [← (warmRestart_permit s).1, warmRestart_eq, formPermit_clp]
  rfl

/-- Settles O5: the frame of a warm restart and what it leaves of each block. -/
theorem warmRestartEvent : Obligations.WarmRestartEvent := by
  intro s tag free
  exact ⟨warmRestart s, exec_request_free (q := ⟨tag, .restart⟩) rfl free, by simp, by simp, by simp, by simp, by simp,
    by simp, by simp, by simp, warmRestart_plt s, warmRestart_ch s, warmRestart_mlc s, warmRestart_spr s, warmRestart_chd s,
    warmRestart_cst s, warmRestart_load s, warmRestart_tqs s, warmRestart_clp s⟩

end Sys2Proof.Machine
end

section
/-! The reads of the Control Link (R192, R198, R199): IDENTIFY, GET_STATUS part by part and a request of an unknown kind. -/

namespace Sys2Proof.Machine

/-! ### Sets and fields as bytes (R202) -/

theorem fSet_two (a b : Bool) : fSet [a, b] = [(if a then 0x01 else 0) + (if b then 0x02 else 0)] := by
  revert a b
  decide

theorem fSet_three (a b c : Bool) :
    fSet [a, b, c] = [(if a then 0x01 else 0) + (if b then 0x02 else 0) + (if c then 0x04 else 0)] := by
  revert a b c
  decide

theorem fSet_four (a b c d : Bool) :
    fSet [a, b, c, d] =
      [(if a then 0x01 else 0) + (if b then 0x02 else 0) + (if c then 0x04 else 0) + (if d then 0x08 else 0)] := by
  revert a b c d
  decide

theorem fSet_seven (a b c d e f g : Bool) :
    fSet [a, b, c, d, e, f, g] =
      [(if a then 0x01 else 0) + (if b then 0x02 else 0) + (if c then 0x04 else 0) + (if d then 0x08 else 0) +
        (if e then 0x10 else 0) + (if f then 0x20 else 0) + (if g then 0x40 else 0)] := by
  revert a b c d e f g
  decide

theorem fSpeed_eq (v : Int) :
    fSpeed v = if -32768 ≤ v ∧ v ≤ 32767 then bytesBE 2 v else bytesBE 2 (Config.speedCode v).toNat := by
  simp only [fSpeed, fitsSigned16, Bool.and_eq_true, decide_eq_true_eq]

/-- A choice on presence, as a test of the option itself. -/
theorem ite_isSome {α β : Type} (o : Option α) [Decidable (o ≠ none)] (x y : β) :
    (if o.isSome then x else y) = if o ≠ none then x else y := by
  cases o <;> simp

theorem fOpt_some {α : Type} (n : Nat) (enc : α → List Byte) (x : α) : fOpt n enc (some x) = 0x01 :: enc x := rfl

theorem fOpt_none {α : Type} (n : Nat) (enc : α → List Byte) : fOpt n enc none = List.replicate (n + 1) 0x00 := rfl

theorem fTruck_eq :
    fTruck = fun q => bytesBE 2 q.id ++ bytesBE 2 q.target ++ bytesBE 4 q.fill ++ bytesBE 1 q.state.code := rfl

/-! ### The two requests -/

/-- GET_STATUS of a part that there is (R199). -/
theorem exec_getStatus {s : State} (free : s.linkFree) (tag : Byte) {part : Nat} {vs : List Byte}
    (h : partValues s part = some vs) :
    exec (.getStatus tag part) s = .next (withReply ⟨0xF1, tag, 0x00 :: vs⟩ s) := by
  rw [exec_request_free (q := ⟨tag, .getStatus part⟩) rfl free]
  simp only [serve, serveGetStatus, h]
  rfl

/-- GET_STATUS of a part that there is not is refused (R199). -/
theorem exec_getStatus_refused {s : State} (free : s.linkFree) (tag : Byte) {part : Nat} (h : 4 < part) :
    exec (.getStatus tag part) s = .next (withReply ⟨0xF1, tag, [0x12]⟩ s) := by
  obtain ⟨n, rfl⟩ : ∃ n, part = n + 5 := ⟨part - 5, by omega⟩
  exact exec_request_free (q := ⟨tag, .getStatus (n + 5)⟩) rfl free

theorem setItems_all (g : Geometry) :
    fBool (g.setItems.all id) =
      [if g.w ≠ none ∧ g.dd ≠ none ∧ g.ds ≠ none ∧ g.lb ≠ none ∧ g.cb ≠ none ∧ g.ppm ≠ none ∧ g.bppm ≠ none then 0x01
        else 0x00] := by
  simp only [fBool, Geometry.setItems, List.all_cons, List.all_nil, id, Bool.and_true, Bool.and_eq_true,
    Option.isSome_iff_ne_none]

theorem setItems_set (g : Geometry) :
    fSet g.setItems =
      [(if g.w ≠ none then 0x01 else 0x00) + (if g.dd ≠ none then 0x02 else 0x00) +
        (if g.ds ≠ none then 0x04 else 0x00) + (if g.lb ≠ none then 0x08 else 0x00) +
        (if g.cb ≠ none then 0x10 else 0x00) + (if g.ppm ≠ none then 0x20 else 0x00) +
        (if g.bppm ≠ none then 0x40 else 0x00)] := by
  rw [Geometry.setItems, fSet_seven]
  simp only [ite_isSome]

/-- The part code and the protocol revision (R198). -/
theorem identity_bytes : bytesBE 2 Config.partCode ++ bytesBE 1 Config.protocolRevision = [0x02, 0x6C, 0x01] := by decide

/-- IDENTIFY (R198). -/
theorem exec_identify {s : State} (free : s.linkFree) (tag : Byte) :
    exec (.identify tag) s = .next (withReply ⟨0xF0, tag,
      [0x00, 0x02, 0x6C, 0x01,
        if s.geo.w ≠ none ∧ s.geo.dd ≠ none ∧ s.geo.ds ≠ none ∧ s.geo.lb ≠ none ∧ s.geo.cb ≠ none ∧
          s.geo.ppm ≠ none ∧ s.geo.bppm ≠ none then 0x01 else 0x00,
        (if s.geo.w ≠ none then 0x01 else 0) + (if s.geo.dd ≠ none then 0x02 else 0) +
        (if s.geo.ds ≠ none then 0x04 else 0) + (if s.geo.lb ≠ none then 0x08 else 0) +
        (if s.geo.cb ≠ none then 0x10 else 0) + (if s.geo.ppm ≠ none then 0x20 else 0) +
        (if s.geo.bppm ≠ none then 0x40 else 0)]⟩ s) := by
  rw [exec_request_free (q := ⟨tag, .identify⟩) rfl free]
  refine congrArg (fun l => Host.Outcome.next (withReply ⟨0xF0, tag, 0x00 :: l⟩ s))
    (?_ : bytesBE 2 Config.partCode ++ bytesBE 1 Config.protocolRevision ++ fBool (s.geo.setItems.all id) ++
      fSet s.geo.setItems = _)
  rw [identity_bytes, setItems_all, setItems_set]
  rfl

/-- Settles O46: each part's bytes are its layout with the field encodings written out. The three long layouts are opened by
`delta`, since the equation lemma of a layout of that length is costly to make. -/
theorem linkReads : Obligations.LinkReads := by
  intro s tag kind part yes speed absent2 absent4 free hyes hspeed habsent2 habsent4
  obtain rfl : yes = fBool := hyes.trans rfl
  obtain rfl : speed = fSpeed := hspeed.trans (funext fun v => (fSpeed_eq v).symm)
  obtain rfl : absent2 = fOpt 2 fDepth := habsent2.trans (funext fun o => by cases o <;> rfl)
  obtain rfl : absent4 = fOpt 4 fChainage := habsent4.trans (funext fun o => by cases o <;> rfl)
  refine ⟨exec_identify free tag, exec_getStatus_refused free tag, exec_getStatus free tag (congrArg some ?_),
    exec_getStatus free tag (congrArg some ?_), exec_getStatus free tag (congrArg some ?_),
    exec_getStatus free tag (congrArg some ?_), exec_getStatus free tag (congrArg some ?_),
    exec_request_free (q := ⟨tag, .unknown kind⟩) rfl free⟩
  · delta roadValues
    cases h : s.chd.held <;>
      simp only [fLiftCauses, fSet_two, fSet_three, f8, f16, fChainage, fBeltTravel, fOpt_none, fOpt_some]
  · delta channelsValues channelValues
    simp only [fHoldCauses, fSet_two, f8, fDepth, Channel.onGrade, List.flatMap_cons, List.flatMap_nil, List.append_nil]
  · simp only [scannerValues, fScanCounters, f32, List.append_assoc]
  · delta loadingStatus
    cases hf : s.tqs.lastFull <;> cases hl : s.geo.lb <;> cases hc : s.geo.cb <;>
      simp only [hl, hc, fVolumes, fLastParcel, fReasons, fSet_four, fRecords, fTruck_eq, fFullTruck,
        State.loadingLimit, f8, f16, f32, f64, fOpt_none, fOpt_some, truncDiv, List.append_assoc]
  · simp only [statusValues, fFlags, State.anyFlag, State.runningTime, fFrameCounters, f16, f32, List.append_assoc]

end Sys2Proof.Machine
end

section
/-! The depth plan as data (chapter 2): segments in start order, the protected band, the removal of coverage and the
insertion of a segment. -/

namespace Sys2Proof.Machine

/-! ### Segments in order (R18, R27) -/

/-- One segment ends before another starts. -/
def EndsBefore (g h : Segment) : Prop := Segment.finish g ≤ h.start

theorem Segment.start_lt_finish {g : Segment} (h : 0 < g.length) : g.start < Segment.finish g := by
  unfold Segment.finish
  omega

theorem followOn_cons (e : Option Int) (g : Segment) (rest : List Segment) :
    followOn e (g :: rest) = true ↔ (∀ x ∈ e, x ≤ g.start) ∧ followOn (some (Segment.finish g)) rest = true := by
  cases e <;> simp [followOn]

/-- Among segments of positive length, each following on from the one before it means each ending before every later one starts
(R27, R28). -/
theorem followOn_iff {gs : List Segment} (pos : ∀ g ∈ gs, 0 < g.length) (e : Option Int) :
    followOn e gs = true ↔ (∀ x ∈ e, ∀ g ∈ gs, x ≤ g.start) ∧ gs.Pairwise EndsBefore := by
  induction gs generalizing e with
  | nil => simp [followOn]
  | cons g rest ih =>
    obtain ⟨hg, hrest⟩ := List.forall_mem_cons.1 pos
    have hlt := Segment.start_lt_finish hg
    simp only [followOn_cons, ih hrest, Option.mem_def, Option.some.injEq, forall_eq',
      List.forall_mem_cons, List.pairwise_cons, EndsBefore]
    constructor
    · rintro ⟨he, hg, hp⟩
      exact ⟨fun x hx => ⟨he x hx, fun k hk => ((he x hx).trans hlt.le).trans (hg k hk)⟩, hg, hp⟩
    · rintro ⟨he, hg, hp⟩
      exact ⟨fun x hx => (he x hx).1, hg, hp⟩

/-- A list is ordered when its segments have positive length and each ends before every later one starts (R18, R27). -/
theorem ordered_iff (gs : List Segment) : ordered gs ↔ (∀ g ∈ gs, 0 < g.length) ∧ gs.Pairwise EndsBefore := by
  refine and_comm.trans (and_congr_right fun pos => ?_)
  rw [followOn_iff pos]
  simp

theorem ordered_nil : ordered [] := (ordered_iff _).2 ⟨by simp, .nil⟩

theorem ordered_cons {g : Segment} {rest : List Segment} :
    ordered (g :: rest) ↔ 0 < g.length ∧ (∀ h ∈ rest, EndsBefore g h) ∧ ordered rest := by
  simp only [ordered_iff, List.forall_mem_cons, List.pairwise_cons]
  tauto

theorem Segment.length_pos_of_wellFormed {g : Segment} (h : Segment.wellFormed g = true) : 0 < g.length := by
  simp only [Segment.wellFormed, within, Bool.and_eq_true, decide_eq_true_eq] at h
  omega

/-! ### Removing coverage (R30, R31) -/

@[simp] theorem cutEnd_start (g : Segment) (e : Int) : (Segment.cutEnd g e).start = g.start := (rfl)

@[simp] theorem cutEnd_finish (g : Segment) (e : Int) : Segment.finish (Segment.cutEnd g e) = e := by
  simp only [Segment.finish, Segment.cutEnd]
  omega

@[simp] theorem cutStart_start (g : Segment) (b : Int) : (Segment.cutStart g b).start = b := (rfl)

@[simp] theorem cutStart_finish (g : Segment) (b : Int) : Segment.finish (Segment.cutStart g b) = Segment.finish g := by
  simp only [Segment.finish, Segment.cutStart]
  omega

/-- A segment that `[x, y)` does not meet is left as it is (R30). -/
theorem without_apart {x y : Int} {g : Segment} (h : Segment.finish g ≤ x ∨ y ≤ g.start) : Segment.without x y g = [g] :=
  if_pos h

/-- Of a segment that `[x, y)` meets, what lies below x and what lies from y on is left (R30, R31). -/
theorem without_met {x y : Int} {g : Segment} (hx : x < Segment.finish g) (hy : g.start < y) :
    Segment.without x y g = (if g.start < x then [Segment.cutEnd g x] else []) ++
      (if y < Segment.finish g then [Segment.cutStart g y] else []) :=
  if_neg (by omega)

/-- A piece of `g`: within it, with its attributes. -/
structure PieceOf (h g : Segment) : Prop where
  cut : h.cut = g.cut
  load : h.load = g.load
  detect : h.detect = g.detect
  start_le : g.start ≤ h.start
  finish_le : Segment.finish h ≤ Segment.finish g

/-- What the removal of `[x, y)` leaves of a segment: pieces of it that lie below x or from y on (R30). -/
theorem mem_without {x y : Int} {g h : Segment} (hm : h ∈ Segment.without x y g) :
    PieceOf h g ∧ (Segment.finish h ≤ x ∨ y ≤ h.start) ∧ (0 < g.length → 0 < h.length) := by
  by_cases apart : Segment.finish g ≤ x ∨ y ≤ g.start
  · rw [without_apart apart, List.mem_singleton] at hm
    subst hm
    exact ⟨⟨rfl, rfl, rfl, le_rfl, le_rfl⟩, apart, id⟩
  · push Not at apart
    rw [without_met apart.1 apart.2, List.mem_append, List.mem_ite_nil_right, List.mem_ite_nil_right,
      List.mem_singleton, List.mem_singleton] at hm
    obtain ⟨lt, rfl⟩ | ⟨lt, rfl⟩ := hm
    · exact ⟨⟨rfl, rfl, rfl, le_rfl, by simpa using apart.1.le⟩, by simp, fun _ => Int.sub_pos.2 lt⟩
    · exact ⟨⟨rfl, rfl, rfl, by simpa using apart.2.le, by simp⟩, by simp, fun _ => Int.sub_pos.2 lt⟩

theorem covers_iff (g : Segment) (c : Int) : Segment.covers g c = true ↔ g.start ≤ c ∧ c < Segment.finish g := by
  simp only [Segment.covers, Bool.and_eq_true, decide_eq_true_eq]

theorem any_singleton_ite {α : Type} (f : α → Bool) (p : Prop) [Decidable p] (a : α) :
    (if p then [a] else []).any f = true ↔ p ∧ f a = true := by
  split <;> simp [*]

/-- The removal of `[x, y)` from one segment uncovers exactly that range (R30). -/
theorem without_covers {x y : Int} (g : Segment) (c : Int) :
    (Segment.without x y g).any (fun h => Segment.covers h c) = true ↔ Segment.covers g c = true ∧ (c < x ∨ y ≤ c) := by
  by_cases apart : Segment.finish g ≤ x ∨ y ≤ g.start
  · simp only [without_apart apart, List.any_cons, List.any_nil, Bool.or_false, covers_iff]
    omega
  · push Not at apart
    simp only [without_met apart.1 apart.2, List.any_append, Bool.or_eq_true, any_singleton_ite, covers_iff, cutEnd_start,
      cutEnd_finish, cutStart_start, cutStart_finish]
    omega

/-- The pieces of one segment stand in order. -/
theorem without_pairwise {x y : Int} (g : Segment) (hxy : x < y) : (Segment.without x y g).Pairwise EndsBefore := by
  unfold Segment.without
  split
  · exact List.pairwise_singleton _ _
  · split <;> split <;> simp [EndsBefore, hxy.le]

theorem removeCoverage_eq {x y : Int} (h : x < y) (plan : List Segment) :
    removeCoverage x y plan = plan.flatMap (Segment.without x y) := if_pos h

theorem removeCoverage_empty_range (x : Int) (plan : List Segment) : removeCoverage x x plan = plan :=
  if_neg (lt_irrefl x)

theorem removeCoverage_nil {x y : Int} : removeCoverage x y [] = [] := by simp [removeCoverage]

theorem removeCoverage_cons {x y : Int} (h : x < y) (g : Segment) (plan : List Segment) :
    removeCoverage x y (g :: plan) = Segment.without x y g ++ removeCoverage x y plan := by
  simp only [removeCoverage_eq h, List.flatMap_cons]

/-- Every segment left is a piece of one that stood in the plan, outside the range (R30). -/
theorem mem_removeCoverage {x y : Int} (hxy : x < y) {plan : List Segment} {h : Segment} (hm : h ∈ removeCoverage x y plan) :
    ∃ g ∈ plan, PieceOf h g ∧ (Segment.finish h ≤ x ∨ y ≤ h.start) ∧ (0 < g.length → 0 < h.length) := by
  rw [removeCoverage_eq hxy, List.mem_flatMap] at hm
  exact hm.imp fun g hg => ⟨hg.1, mem_without hg.2⟩

/-- The removal of `[x, y)` uncovers exactly that range (R30). -/
theorem removeCoverage_covers {x y : Int} (hxy : x < y) (plan : List Segment) (c : Int) :
    (removeCoverage x y plan).any (fun g => Segment.covers g c) = true ↔
      plan.any (fun g => Segment.covers g c) = true ∧ (c < x ∨ y ≤ c) := by
  induction plan with
  | nil => simp [removeCoverage_nil]
  | cons g rest ih =>
    rw [removeCoverage_cons hxy, List.any_append, Bool.or_eq_true, ih, without_covers g c, List.any_cons, Bool.or_eq_true]
    tauto

/-- The removal of coverage keeps the order of a plan, whatever the range. -/
theorem removeCoverage_ordered (x y : Int) {plan : List Segment} (h : ordered plan) : ordered (removeCoverage x y plan) := by
  by_cases hxy : x < y
  · obtain ⟨pos, apart⟩ := (ordered_iff plan).1 h
    refine (ordered_iff _).2 ⟨fun k hk => ?_, ?_⟩
    · obtain ⟨g, hg, -, -, hpos⟩ := mem_removeCoverage hxy hk
      exact hpos (pos g hg)
    · rw [removeCoverage_eq hxy, List.pairwise_flatMap]
      refine ⟨fun g _ => without_pairwise g hxy, apart.imp fun {g k} hgk a ha b hb => ?_⟩
      exact ((mem_without ha).1.finish_le.trans hgk).trans (mem_without hb).1.start_le
  · rwa [removeCoverage, if_neg hxy]

/-! ### Inserting a segment (R34) -/

theorem insertSegment_perm (g : Segment) (plan : List Segment) : (insertSegment g plan).Perm (g :: plan) := by
  induction plan with
  | nil => rfl
  | cons h rest ih =>
    unfold insertSegment
    split
    · rfl
    · exact (ih.cons h).trans (.swap g h rest)

theorem mem_insertSegment {g h : Segment} {plan : List Segment} : h ∈ insertSegment g plan ↔ h = g ∨ h ∈ plan :=
  (insertSegment_perm g plan).mem_iff.trans List.mem_cons

/-- The insertion adds the coverage of the segment. -/
theorem insertSegment_covers (g : Segment) (plan : List Segment) (c : Int) :
    (insertSegment g plan).any (fun h => Segment.covers h c) = true ↔
      Segment.covers g c = true ∨ plan.any (fun h => Segment.covers h c) = true := by
  simp only [List.any_eq_true, mem_insertSegment, or_and_right, exists_or, exists_eq_left]

/-- The insertion keeps the start order of any plan. -/
theorem insertSegment_startOrder (g : Segment) {plan : List Segment} (h : plan.Pairwise (fun p q => p.start ≤ q.start)) :
    (insertSegment g plan).Pairwise (fun p q => p.start ≤ q.start) := by
  induction plan with
  | nil => exact List.pairwise_singleton _ _
  | cons k rest ih =>
    obtain ⟨hk, hrest⟩ := List.pairwise_cons.1 h
    unfold insertSegment
    split
    next hlt => exact List.pairwise_cons.2 ⟨List.forall_mem_cons.2 ⟨hlt.le, fun q hq => hlt.le.trans (hk q hq)⟩, h⟩
    next hge =>
      refine List.pairwise_cons.2 ⟨fun q hq => ?_, ih hrest⟩
      obtain rfl | hq := mem_insertSegment.1 hq
      · omega
      · exact hk q hq

/-- A list of segments of positive length is ordered when it is in start order and no two of its segments overlap. -/
theorem ordered_of_startOrder {gs : List Segment} (pos : ∀ g ∈ gs, 0 < g.length)
    (start : gs.Pairwise (fun p q => p.start ≤ q.start))
    (apart : gs.Pairwise (fun p q => EndsBefore p q ∨ EndsBefore q p)) :
    ordered gs := by
  refine (ordered_iff gs).2 ⟨pos, ((start.and apart).imp_of_mem ?_)⟩
  rintro p q hp hq ⟨hle, hpq | hqp⟩
  · exact hpq
  · have := Segment.start_lt_finish (pos q hq)
    unfold EndsBefore at hqp
    omega

theorem ordered.startOrder {gs : List Segment} (h : ordered gs) : gs.Pairwise (fun p q => p.start ≤ q.start) := by
  obtain ⟨pos, apart⟩ := (ordered_iff gs).1 h
  exact apart.imp_of_mem fun hp _ hpq => (Segment.start_lt_finish (pos _ hp)).le.trans hpq

/-- A segment inserted where the plan leaves its range free keeps the order of the plan (R34). -/
theorem insertSegment_ordered {g : Segment} {plan : List Segment} (hg : 0 < g.length) (h : ordered plan)
    (free : ∀ k ∈ plan, EndsBefore k g ∨ EndsBefore g k) : ordered (insertSegment g plan) := by
  obtain ⟨pos, apart⟩ := (ordered_iff plan).1 h
  have symm {p q : Segment} : EndsBefore p q ∨ EndsBefore q p → EndsBefore q p ∨ EndsBefore p q := Or.symm
  refine ordered_of_startOrder (fun k hk => ?_) (insertSegment_startOrder g h.startOrder)
    (((insertSegment_perm g plan).pairwise_iff symm).2
      (List.pairwise_cons.2 ⟨fun k hk => (free k hk).symm, apart.imp .inl⟩))
  obtain rfl | hk := mem_insertSegment.1 hk
  · exact hg
  · exact pos k hk

/-- The plan after a staged step: the old coverage of `[p, finish)` gone and the segment in (R34). -/
theorem spliced_ordered {g : Segment} {plan : List Segment} {p : Int} (hg : 0 < g.length) (hp : p ≤ g.start)
    (h : ordered plan) : ordered (insertSegment g (removeCoverage p (Segment.finish g) plan)) := by
  have hlt : p < Segment.finish g := hp.trans_lt (Segment.start_lt_finish hg)
  refine insertSegment_ordered hg (removeCoverage_ordered _ _ h) fun k hk => ?_
  obtain ⟨-, -, -, below | above, -⟩ := mem_removeCoverage hlt hk
  · exact .inl (below.trans hp)
  · exact .inr above

/-! ### The protected band (R25) -/

/-- The band meets a range that is not empty where the two intersect and the band itself is not empty (R25). -/
theorem bandMeets_iff {s : State} {x y : Int} (hxy : x < y) (hb : 0 ≤ s.tun.bBehind) (ha : 0 ≤ s.tun.bAhead) :
    s.bandMeets x y = true ↔
      (s.tun.bBehind ≠ 0 ∨ s.tun.bAhead ≠ 0) ∧ s.drum - s.tun.bBehind < y ∧ x < s.drum + s.tun.bAhead := by
  simp only [State.bandMeets, Bool.and_eq_true, decide_eq_true_eq]
  unfold State.bandLow State.bandHigh
  omega

theorem bandMeets_empty_range (s : State) (x : Int) : s.bandMeets x x = false := by simp [State.bandMeets]

/-- Settles O16: the band, the removal of coverage segment by segment, and the insertion in start order. -/
theorem planCoverage : Obligations.PlanCoverage := by
  refine ⟨fun s x y hxy hb ha => ⟨bandMeets_iff hxy hb ha, bandMeets_empty_range s x⟩, fun plan x y c hxy => ⟨
    removeCoverage_covers hxy plan c, fun g hg => ?_, removeCoverage_empty_range x plan, removeCoverage_nil⟩, ?_,
    fun g plan c => ⟨insertSegment_perm g plan, insertSegment_covers g plan c, insertSegment_startOrder g⟩⟩
  · obtain ⟨h, hmem, piece, -⟩ := mem_removeCoverage hxy hg
    exact ⟨h, hmem, piece.cut, piece.load, piece.detect, piece.start_le, piece.finish_le⟩
  · rintro h plan x y below above left right hxy rfl rfl rfl rfl
    refine ⟨fun apart => ?_, fun hx hy => ?_⟩
    · rw [removeCoverage_cons hxy, without_apart apart, List.singleton_append]
    · rw [removeCoverage_cons hxy, without_met hx hy]
      rfl

end Sys2Proof.Machine
end

section
/-! The order of plan and staging list (R18, R27, R30, R34): which operations move the plan, and that every step keeps
the order. -/

namespace Sys2Proof.Machine

/-! ### What a step keeps that the link does not touch -/

/-- The choice of the transmitter changes CLP alone (R193). -/
theorem startTx_eq (s : State) : startTx s = { s with clp := (startTx s).clp } := by
  apply State.eq_of_fields <;> simp

/-- A property that changes of CLP, a forming of the permit and the owners' answers to requests keep. -/
structure LinkKeeps (P : State → Prop) : Prop where
  clp : ∀ (c : Clp) {s : State}, P s → P { s with clp := c }
  permit : ∀ {s : State}, P s → P (formPermit s)
  serve : ∀ (r : Request) {s : State}, P s → P (serve r s).1

section
variable {P : State → Prop}

theorem LinkKeeps.startTx_kept (k : LinkKeeps P) {s : State} (h : P s) : P (startTx s) := by
  rw [startTx_eq]
  exact k.clp _ h

theorem LinkKeeps.takeNext_kept (k : LinkKeeps P) {s : State} (h : P s) : P (takeNext s) := by
  unfold takeNext
  split
  next q rest _ _ => exact k.clp _ (k.serve q.req (k.clp { s.clp with buffer := rest } h))
  next => exact h

theorem LinkKeeps.pump_kept (k : LinkKeeps P) {s : State} (h : P s) : P (pump s) :=
  k.takeNext_kept (k.startTx_kept (k.takeNext_kept h))

theorem LinkKeeps.offerRequest_kept (k : LinkKeeps P) (tag : Byte) (r : Request) {s : State} (h : P s) :
    P (offerRequest tag r s) := by
  unfold offerRequest
  split
  · exact k.pump_kept (k.clp _ h)
  · exact k.pump_kept (k.clp _ h)

theorem LinkKeeps.validFrame_kept (k : LinkKeeps P) (f : Frame) {s : State} (h : P s) : P (validFrame f s) := by
  refine k.offerRequest_kept _ _ ?_
  unfold endSilence
  dsimp only
  split
  · exact k.permit (k.clp _ (k.clp _ h))
  · exact k.clp _ (k.clp _ h)

theorem LinkKeeps.applyLinkEvent_kept (k : LinkKeeps P) (e : RxEvent) {s : State} (h : P s) : P (applyLinkEvent e s) := by
  cases e with
  | nothing => exact h
  | lengthError => exact k.clp _ h
  | crcError => exact k.clp _ h
  | frame f =>
    unfold applyLinkEvent takeLinkFrame
    dsimp only
    split
    · exact k.clp _ h
    · exact k.validFrame_kept f h

theorem LinkKeeps.linkByte_kept (k : LinkKeeps P) (b : Byte) {s : State} (h : P s) : P (linkByte s b) :=
  k.applyLinkEvent_kept _ (k.clp { s.clp with rx := (s.clp.rx.push b).1 } h)

theorem LinkKeeps.linkBytes_kept (k : LinkKeeps P) (bytes : List Byte) {s : State} (h : P s) : P (bytes.foldl linkByte s) := by
  induction bytes generalizing s with
  | nil => exact h
  | cons b rest ih => exact ih (k.linkByte_kept b h)

/-- A command keeps what the link and every event row keep. -/
theorem LinkKeeps.exec_kept (k : LinkKeeps P)
    (event : ∀ (i : Instr) (s : State), queuedOf i = none → P s → ∃ t, exec i s = .next t ∧ P t)
    {i : Instr} {s t : State} (h : P s) (e : exec i s = .next t) : P t := by
  obtain ⟨u, hu, g⟩ : ∃ u, exec i s = .next u ∧ P u := by
    cases hq : queuedOf i with
    | none => exact event i s hq h
    | some q => exact ⟨_, exec_request hq s, k.offerRequest_kept q.tag q.req h⟩
  cases hu.symm.trans e
  exact g

/-- A step keeps what its command, or a millisecond, keeps. -/
theorem LinkKeeps.step_kept (k : LinkKeeps P)
    (event : ∀ (i : Instr) (s : State), queuedOf i = none → P s → ∃ t, exec i s = .next t ∧ P t)
    (queue : ∀ (rest : List Instr) {s : State}, P s → P { s with pending := rest })
    (millisecond : ∀ {s : State}, P s → P (tick s)) {s t : State} (h : P s) (e : step s = .next t) : P t := by
  obtain ⟨i, rest, -, e⟩ | ⟨-, i, -, e⟩ | ⟨-, -, rfl⟩ := step_cases e
  · exact k.exec_kept event (queue rest h) e
  · exact k.exec_kept event h e
  · exact millisecond h

end

/-! ### What the order is read from -/

/-- Two states agree on the plan, the staging list and the splice. -/
structure SamePlan (s t : State) : Prop where
  plan : t.plt.plan = s.plt.plan
  staging : t.plt.staging = s.plt.staging
  splice : t.plt.splice = s.plt.splice
  progress : t.plt.p = s.plt.p

theorem SamePlan.of_plt {s t : State} (h : t.plt = s.plt) : SamePlan s t := by constructor <;> rw [h]

theorem SamePlan.after {s t u : State} (g : SamePlan t u) (h : t.plt = s.plt) : SamePlan s u :=
  ⟨by rw [g.plan, h], by rw [g.staging, h], by rw [g.splice, h], by rw [g.progress, h]⟩

theorem SamePlan.planOrdered {s t : State} (e : SamePlan s t) (h : s.planOrdered) : t.planOrdered := by
  unfold State.planOrdered at h ⊢
  rwa [e.plan, e.staging, e.splice, e.progress]

theorem planOrdered_of_plt {s t : State} (e : t.plt = s.plt) (h : s.planOrdered) : t.planOrdered :=
  (SamePlan.of_plt e).planOrdered h

theorem reformDisposition_samePlan (s : State) : SamePlan s (reformDisposition s) := by
  constructor <;> rw [(reformDisposition_keeps s).1] <;> rfl

theorem reformDisposition_planOrdered {s : State} (h : s.planOrdered) : (reformDisposition s).planOrdered :=
  (reformDisposition_samePlan s).planOrdered h

/-- With nothing staged the plan's order is all there is. -/
theorem planOrdered_of_unstaged {s : State} (hp : ordered s.plt.plan) (hs : s.plt.staging = []) : s.planOrdered := by
  refine ⟨hp, hs ▸ ordered_nil, fun _ g hg => ?_⟩
  rw [hs] at hg
  cases hg

/-! ### Staging (R28) -/

/-- A list that follows on after another one does. -/
theorem followOn_append (e : Option Int) (xs ys : List Segment) :
    followOn e (xs ++ ys) = (followOn e xs && followOn ((xs.getLast?.map Segment.finish).or e) ys) := by
  induction xs generalizing e with
  | nil => rfl
  | cons g rest ih =>
    simp only [List.cons_append, followOn, ih, Bool.and_assoc, List.getLast?_cons, Option.map_some, Option.or_some]
    cases rest.getLast? <;> rfl

/-- Well-formed segments that follow on after the staged ones keep the staging list ordered (R27, R28). -/
theorem staged_ordered {s : State} {segs : List Segment} (h : ordered s.plt.staging)
    (wf : segs.all Segment.wellFormed = true) (follow : followOn s.stagingFrom segs = true) :
    ordered (s.plt.staging ++ segs) := by
  refine ⟨?_, List.forall_mem_append.2 ⟨h.2, fun g hg => ?_⟩⟩
  · rw [followOn_append, h.1, Option.or_none]
    exact follow
  · exact Segment.length_pos_of_wellFormed (List.all_eq_true.1 wf g hg)

theorem serveStageSegments_planOrdered (segs : List Segment) {s : State} (h : s.planOrdered) :
    (serveStageSegments segs s).1.planOrdered := by
  obtain ⟨hp, hs, -⟩ := id h
  unfold serveStageSegments
  split
  next => exact h
  next idle =>
    split
    next => exact h
    next ok =>
      split
      next => exact h
      next =>
        simp only [Bool.not_eq_true', Bool.not_eq_false, Bool.and_eq_true] at ok
        obtain ⟨⟨-, wf⟩, follow⟩ := ok
        exact ⟨hp, staged_ordered hs wf follow, fun busy => absurd busy idle⟩

/-! ### The splice (R32 to R38) -/

theorem serveSplice_planOrdered (a b : Int) {s : State} (h : s.planOrdered) : (serveSplice a b s).1.planOrdered := by
  obtain ⟨hp, hs, -⟩ := id h
  unfold serveSplice
  split
  next => exact h
  next =>
    split
    next => exact h
    next held =>
      simp only [Bool.not_eq_true', Bool.not_eq_false, List.all_eq_true, Bool.and_eq_true, decide_eq_true_eq] at held
      (repeat' split)
      · exact h
      · exact h
      · exact h
      · exact ⟨hp, hs, fun _ g hg => (held g hg).1⟩

theorem serveSpliceResume_planOrdered {s : State} (h : s.planOrdered) : (serveSpliceResume s).1.planOrdered := by
  obtain ⟨hp, hs, hf⟩ := id h
  unfold serveSpliceResume
  split
  next => exact h
  next suspended =>
    refine ⟨hp, hs, fun _ => hf ?_⟩
    simp_all

theorem suspendSplice_plt (s : State) :
    (suspendSplice s).plt = { s.plt with splice := .suspended, lastEvent := .suspended } := by
  simp [suspendSplice]

theorem suspendSplice_planOrdered {s : State} (h : s.planOrdered) (running : s.plt.splice = .running) :
    (suspendSplice s).planOrdered := by
  obtain ⟨hp, hs, hf⟩ := h
  unfold State.planOrdered
  rw [suspendSplice_plt]
  exact ⟨hp, hs, fun _ => hf (by simp [running])⟩

/-- A staged step puts the head segment in the plan, and p at its end, which no other staged segment starts before (R34). -/
theorem spliceStep_planOrdered {s : State} (h : s.planOrdered) : (spliceStep s).planOrdered := by
  unfold spliceStep
  split
  next g rest running staged =>
    unfold takeSpliceStep
    dsimp only
    split
    next => exact suspendSplice_planOrdered h running
    next =>
      obtain ⟨hp, hs, hf⟩ := h
      rw [staged] at hs hf
      obtain ⟨hg, after, hrest⟩ := ordered_cons.1 hs
      have first := hf (by simp [running]) g List.mem_cons_self
      exact reformDisposition_planOrdered ⟨spliced_ordered hg first hp, hrest, fun _ => after⟩
  next => exact h

theorem spliceFinalStep_planOrdered {s : State} (h : s.planOrdered) : (spliceFinalStep s).planOrdered := by
  unfold spliceFinalStep
  split
  next final =>
    obtain ⟨running, unstaged⟩ := final
    split
    next => exact suspendSplice_planOrdered h running
    next =>
      have spliced := planOrdered_of_unstaged (s := { s with plt := { s.plt with
        plan := removeCoverage s.plt.p s.plt.b s.plt.plan, p := s.plt.b, splice := .idle, lastEvent := .done } })
        (removeCoverage_ordered _ _ h.1) unstaged
      exact planOrdered_of_plt (by simp) (reformDisposition_planOrdered spliced)
  next => exact h

/-! ### The owners' acts and the events -/

theorem servePlanClear_planOrdered {s : State} (h : s.planOrdered) : (servePlanClear s).1.planOrdered := by
  obtain ⟨-, hs, hf⟩ := id h
  unfold servePlanClear
  (repeat' split)
  · exact h
  · exact h
  · exact reformDisposition_planOrdered ⟨ordered_nil, hs, hf⟩

/-- The owner's act at a write forms the disposition at the drum again, or leaves PLT. -/
theorem ownerAct_samePlan (id : Nat) (s : State) : SamePlan s (ownerAct id s) := by
  unfold ownerAct
  split
  case h_1 | h_8 => exact reformDisposition_samePlan s
  all_goals
    refine .of_plt ?_
    simp [pairComplete, clampDepths, clampSlopes, clampTrims, writeRefMode, writeLt, apply_ite State.plt]

theorem writeItem_samePlan (row : ParamRow) (v : Int) (s : State) : SamePlan s (writeItem row v s) :=
  (ownerAct_samePlan row.id _).after rfl

theorem serveSetParam_samePlan (item : Nat) (v : Int) (s : State) : SamePlan s (serveSetParam item v s).1 := by
  unfold serveSetParam
  split
  next => exact .of_plt rfl
  next row _ =>
    (repeat' split)
    · exact .of_plt rfl
    · exact .of_plt (by simp [refuseLocked, refuse])
    · exact .of_plt rfl
    · exact .of_plt rfl
    · exact writeItem_samePlan row v s

theorem setDatum_samePlan (c : Int) (s : State) : SamePlan s (setDatum c s) :=
  (reformDisposition_samePlan _).after rfl

theorem serveSetDatum_samePlan (c : Int) (s : State) : SamePlan s (serveSetDatum c s).1 := by
  unfold serveSetDatum
  (repeat' split)
  · exact .of_plt rfl
  · exact .of_plt rfl
  · exact .of_plt rfl
  · exact setDatum_samePlan c s

/-- Every request keeps the order: the eight requests of chapter 2, SET_DATUM, SET_PARAM and RESTART reach PLT, and no other. -/
theorem serve_planOrdered (r : Request) {s : State} (h : s.planOrdered) : (serve r s).1.planOrdered := by
  cases r
  case setDatum c => exact (serveSetDatum_samePlan c s).planOrdered h
  case setParam i v => exact (serveSetParam_samePlan i v s).planOrdered h
  case stageSegments segs => exact serveStageSegments_planOrdered segs h
  case stageClear =>
    simp only [serve, serveStageClear]
    split
    · exact h
    · exact planOrdered_of_unstaged h.1 rfl
  case splice a b => exact serveSplice_planOrdered a b h
  case spliceResume => exact serveSpliceResume_planOrdered h
  case spliceAbort =>
    simp only [serve, serveSpliceAbort]
    split
    · exact h
    · exact planOrdered_of_unstaged h.1 rfl
  case planClear => exact servePlanClear_planOrdered h
  case restart =>
    refine planOrdered_of_unstaged (s := warmRestart s) ?_ ?_ <;> rw [warmRestart_plt]
    exact h.1
  all_goals exact planOrdered_of_plt (by simp [serve, refuse]) h

theorem planOrdered_linkKeeps : LinkKeeps State.planOrdered where
  clp _ _ h := planOrdered_of_plt rfl h
  permit h := planOrdered_of_plt (by simp) h
  serve r _ h := serve_planOrdered r h

theorem raiseHw_plt (s : State) : (raiseHw s).plt = s.plt := by
  rw [raiseHw_eq]
  split <;> rfl

theorem travelPulse_samePlan (forward : Bool) (s : State) : SamePlan s (travelPulse forward s) := by
  obtain ⟨-, e⟩ | ⟨-, -, e⟩ | ⟨-, -, e⟩ := travelPulse_cases forward s <;> rw [e]
  · exact .of_plt rfl
  · exact .of_plt (by simp)
  · have counted : (raiseHw (pulseCounted forward s)).plt = s.plt := by
      rw [raiseHw_plt]
      simp [pulseCounted]
    exact (reformDisposition_samePlan _).after counted

/-- Every event row keeps the order: beside the splice's steps, a travel pulse and the link's bytes none reaches PLT. -/
theorem exec_event_planOrdered (i : Instr) (s : State) (hq : queuedOf i = none) (h : s.planOrdered) :
    ∃ t, exec i s = .next t ∧ t.planOrdered := by
  have k := planOrdered_linkKeeps
  have framed {u : State} (e : u.plt = s.plt) : (startTx u).planOrdered := k.startTx_kept (planOrdered_of_plt e h)
  cases i <;> cases hq
  case powerOnReset => exact ⟨_, rfl, planOrdered_of_plt (by simp [powerOn]; rfl) reset_planOrdered⟩
  case qualifiedTravelPulse forward => exact ⟨_, rfl, k.startTx_kept ((travelPulse_samePlan forward s).planOrdered h)⟩
  case spliceStep => exact ⟨_, rfl, k.startTx_kept (spliceStep_planOrdered h)⟩
  case spliceFinalStep => exact ⟨_, rfl, k.startTx_kept (spliceFinalStep_planOrdered h)⟩
  case validFrame bytes => exact ⟨_, rfl, k.startTx_kept (k.linkBytes_kept bytes h)⟩
  case frameStart => exact ⟨_, rfl, k.startTx_kept (k.linkByte_kept startByte h)⟩
  case frameLengthError b => exact ⟨_, rfl, k.startTx_kept (k.linkByte_kept b h)⟩
  case transmitEnd => exact ⟨_, rfl, k.pump_kept (k.clp _ h)⟩
  case gapDiscard =>
    refine ⟨_, rfl, framed ?_⟩
    unfold linkGap
    split <;> rfl
  all_goals exact ⟨_, rfl, framed (by simp)⟩

/-- Settles O57: the order is a property that the link, every event row and a millisecond keep. -/
theorem planOrderKept : Obligations.PlanOrderKept := fun _ _ h e =>
  planOrdered_linkKeeps.step_kept exec_event_planOrdered (fun _ _ h => planOrdered_of_plt rfl h)
    (fun h => planOrdered_of_plt rfl h) h e

end Sys2Proof.Machine
end

section
/-! The requests of the Plan Table (R28, R29, R32, R37, R38, R41, R42) and the steps of a splice (R33 to R36). -/

namespace Sys2Proof.Machine

/-! ### Requests answered on a free link -/

/-- A request row on a free link acts and is answered as its owner answers it (R192). -/
theorem exec_answered {i : Instr} {q : Queued} {s t : State} {code : ResultCode} {values : List Byte}
    (hq : queuedOf i = some q) (free : s.linkFree) (h : serve q.req s = (t, ⟨code, values⟩)) :
    exec i s = .next (withReply ⟨q.req.kind + 0x80, q.tag, code.code :: values⟩ t) := by
  rw [exec_request_free hq free, h]
  rfl

theorem f8_eq (n : Nat) : f8 n = [BitVec.ofNat 8 n] := by simp [f8, bytesBE]

/-- Settles O13: in IDLE the staging list goes, and a splice in progress answers BUSY. -/
theorem stageClear : Obligations.StageClear := by
  intro s tag free
  split
  next idle =>
    exact exec_answered (q := ⟨tag, .stageClear⟩) rfl free (if_neg (not_not.2 idle))
  next busy =>
    exact exec_answered (q := ⟨tag, .stageClear⟩) rfl free (if_pos busy)

/-! ### Staging and the splice's requests -/

/-- Segments each ending before every later one starts follow on after the staged ones when the first of them does (R28). -/
theorem followOn_staged {s : State} {segs : List Segment} (wf : ∀ g ∈ segs, Segment.wellFormed g = true)
    (first : ∀ g e, segs.head? = some g → s.plt.staging.getLast? = some e → Segment.finish e ≤ g.start)
    (apart : segs.Pairwise EndsBefore) : followOn s.stagingFrom segs = true := by
  cases segs with
  | nil => rfl
  | cons g rest =>
    have pos : ∀ h ∈ g :: rest, 0 < h.length := fun h hm => Segment.length_pos_of_wellFormed (wf h hm)
    rw [followOn_cons, followOn_iff (List.forall_mem_cons.1 pos).2]
    obtain ⟨after, rest_apart⟩ := List.pairwise_cons.1 apart
    refine ⟨fun x hx => ?_, fun x hx => Option.some.inj hx ▸ after, rest_apart⟩
    obtain ⟨e, he, rfl⟩ := Option.map_eq_some_iff.1 hx
    exact first g e rfl he

/-- STAGE_SEGMENTS, accepted (R28). -/
theorem serveStageSegments_accepted {s : State} {segs : List Segment} (idle : s.plt.splice = .idle)
    (some_given : 1 ≤ segs.length) (at_most : segs.length ≤ 8) (wf : ∀ g ∈ segs, Segment.wellFormed g = true)
    (follow : followOn s.stagingFrom segs = true) (room : s.plt.staging.length + segs.length ≤ 32) :
    serveStageSegments segs s =
      accept (f8 (s.plt.staging ++ segs).length) { s with plt := { s.plt with staging := s.plt.staging ++ segs } } := by
  unfold serveStageSegments
  rw [if_neg (not_not.2 idle), if_neg, if_neg (not_lt.2 room)]
  simp only [some_given, at_most, List.all_eq_true.2 wf, follow, decide_true, Bool.and_true, Bool.not_true,
    Bool.false_eq_true, not_false_eq_true]

/-- SPLICE, accepted (R32). -/
theorem serveSplice_accepted {s : State} {a b : Int} (idle : s.plt.splice = .idle) (ha : -1000000000 ≤ a) (hab : a < b)
    (hb : b ≤ 1000000000) (held : ∀ g ∈ s.plt.staging, a ≤ g.start ∧ Segment.finish g ≤ b)
    (clear : s.bandMeets a b = false) (room : s.plt.plan.length + s.plt.staging.length ≤ 127) :
    serveSplice a b s = accept [] { s with plt := { s.plt with
      splice := .running, a := a, b := b, p := a, stepIndex := 0, lastEvent := .accepted } } := by
  unfold serveSplice
  rw [if_neg, if_neg, if_neg (Bool.eq_false_iff.1 clear), if_neg (not_lt.2 room), if_neg (not_not.2 idle)]
  · simpa using held
  · have limits : ∀ x, -1000000000 ≤ x → x ≤ 1000000000 → chainageOk x = true := fun x low high => by
      simp only [chainageOk, within, Bool.and_eq_true, decide_eq_true_eq]
      exact ⟨low, high⟩
    simp [limits a ha (by omega), limits b (by omega) hb, hab]

/-- Settles O14: each request passes its owner's checks, and the answer is the reply. -/
theorem stagingAndSpliceRequests : Obligations.StagingAndSpliceRequests := by
  intro s tag segs a b free
  refine ⟨fun idle some_given at_most wf first apart room => ?_, fun idle ha hab hb held clear room => ?_,
    fun suspended => ?_, fun busy => ?_⟩
  · rw [← List.length_append, ← f8_eq]
    exact exec_answered (q := ⟨tag, .stageSegments segs⟩) rfl free
      (serveStageSegments_accepted idle some_given at_most wf (followOn_staged wf first apart) room)
  · exact exec_answered (q := ⟨tag, .splice a b⟩) rfl free (serveSplice_accepted idle ha hab hb held clear room)
  · exact exec_answered (q := ⟨tag, .spliceResume⟩) rfl free (if_neg (not_not.2 suspended))
  · exact exec_answered (q := ⟨tag, .spliceAbort⟩) rfl free (if_neg busy)

/-! ### The steps of a splice (R33 to R36) -/

/-- The suspension as one update of PLT and of the pending set (R36). -/
theorem suspendSplice_eq (s : State) : suspendSplice s = { s with
    plt := { s.plt with splice := .suspended, lastEvent := .suspended }
    clp := { s.clp with waiting := s.clp.waiting ||| (0b010000000 &&& s.clp.enabled) } } :=
  queueReport_eq .splice _

theorem spliceStep_running {s : State} {g : Segment} {rest : List Segment} (running : s.plt.splice = .running)
    (staged : s.plt.staging = g :: rest) : spliceStep s = takeSpliceStep g rest s := by
  unfold spliceStep
  rw [running, staged]

/-- The state when a staged step has taken the head segment, before the disposition at the drum is formed again (R34). -/
def stepTaken (g : Segment) (rest : List Segment) (s : State) : State :=
  { s with plt := { s.plt with
      plan := insertSegment g (removeCoverage s.plt.p (Segment.finish g) s.plt.plan)
      p := Segment.finish g, stepIndex := s.plt.stepIndex + 1, staging := rest } }

theorem takeSpliceStep_eq (g : Segment) (rest : List Segment) (s : State) :
    takeSpliceStep g rest s = if s.bandMeets s.plt.p (g.start + g.length) then suspendSplice s
      else reformDisposition (stepTaken g rest s) := rfl

/-- The state when the final step has been taken, before the disposition at the drum is formed again (R35). -/
def splicedToEnd (s : State) : State :=
  { s with plt := { s.plt with
      plan := removeCoverage s.plt.p s.plt.b s.plt.plan, p := s.plt.b, splice := .idle, lastEvent := .done } }

theorem spliceFinalStep_running {s : State} (running : s.plt.splice = .running) (unstaged : s.plt.staging = []) :
    spliceFinalStep s = if s.bandMeets s.plt.p s.plt.b then suspendSplice s
      else queueReport .splice (reformDisposition (splicedToEnd s)) :=
  if_pos ⟨running, unstaged⟩

/-- Settles O15: both kinds of step, each suspended by the band or taken with the disposition at the drum formed again. -/
theorem spliceStepsTaken : Obligations.SpliceStepsTaken := by
  intro s running
  refine ⟨fun g rest staged => ?_, fun unstaged => ?_⟩
  · have taken : exec .spliceStep s = .next (startTx (takeSpliceStep g rest s)) := by
      rw [← spliceStep_running running staged]
      rfl
    rw [taken, takeSpliceStep_eq, ← suspendSplice_eq]
    refine ⟨fun met => ?_, fun clear => ⟨_, ?_, reformDisposition_reformed (stepTaken g rest s)⟩⟩
    · rw [if_pos met]
    · rw [if_neg (Bool.eq_false_iff.1 clear)]
  · have taken : exec .spliceFinalStep s = .next (startTx (spliceFinalStep s)) := rfl
    rw [taken, spliceFinalStep_running running unstaged, ← suspendSplice_eq]
    refine ⟨fun met => ?_, fun clear => ⟨_, ?_, reformDisposition_reformed (splicedToEnd s)⟩⟩
    · rw [if_pos met]
    · have enabled : (reformDisposition (splicedToEnd s)).clp.enabled = s.clp.enabled := by simp [splicedToEnd]
      rw [if_neg (Bool.eq_false_iff.1 clear), queueReport_eq, enabled]
      rfl

/-! ### PLAN_CLEAR and GET_PLAN (R41, R42) -/

/-- PLAN_CLEAR, accepted (R41). -/
theorem servePlanClear_accepted {s : State} (idle : s.plt.splice = .idle) (still : ¬(s.anyAuto = true ∧ s.target = .plan)) :
    servePlanClear s =
      accept (f8 s.plt.plan.length) (reformDisposition { s with plt := { s.plt with plan := [] } }) := by
  unfold servePlanClear
  rw [if_neg (not_not.2 idle), if_neg still]

/-- With no plan the drum lies under the default disposition (R21). -/
theorem reformDisposition_of_empty (s : State) :
    (reformDisposition { s with plt := { s.plt with plan := [] } }).plt =
      { s.plt with plan := [], disposition := s.tun.defaultDisp.disposition, covered := false } := by
  rw [(reformDisposition_keeps _).1]
  rfl

/-- The GET_PLAN reply field by field (R42). -/
theorem planValues_eq (first count : Nat) (s : State) :
    planValues first count s = bytesBE 1 s.plt.plan.length ++ bytesBE 1 s.plt.staging.length ++
      bytesBE 1 s.plt.splice.code ++ bytesBE 1 s.plt.lastEvent.code ++ bytesBE 4 s.plt.a ++ bytesBE 4 s.plt.b ++
      bytesBE 4 s.plt.p ++ bytesBE 1 s.plt.stepIndex ++ bytesBE 1 (min count (s.plt.plan.length - first) : Nat) ++
      ((s.plt.plan.drop first).take count).flatMap Segment.bytes := by
  have records : fRecords fSegment (window first count s.plt.plan) =
      bytesBE 1 (min count (s.plt.plan.length - first) : Nat) ++
        ((s.plt.plan.drop first).take count).flatMap Segment.bytes := by
    rw [← List.length_drop, ← List.length_take]
    rfl
  unfold planValues fSplice
  rw [records]
  simp only [f8, fChainage, List.append_assoc]

/-- Settles O17: the emptied plan puts the drum under the default, and the reply to GET_PLAN is its layout. -/
theorem planRequests : Obligations.PlanRequests := by
  intro s tag first count free
  refine ⟨fun idle still => ⟨_, exec_answered (q := ⟨tag, .planClear⟩) rfl free (servePlanClear_accepted idle still),
    reformDisposition_of_empty s, reformDisposition_reformed _⟩, fun hf h1 h8 => ?_⟩
  rw [← planValues_eq]
  refine exec_answered (q := ⟨tag, .getPlan first count⟩) rfl free (if_neg ?_)
  omega

end Sys2Proof.Machine
end

section
/-! The end of a frame and the transmitter's choice (R192, R193), with the content of the nine reports. -/

namespace Sys2Proof.Machine

/-! ### A waiting reply goes first (R193) -/

/-- The sending of a reply as one update of CLP (R193). -/
theorem sendReply_eq (f : Frame) (s : State) : sendReply f s = { s with clp := { s.clp with
    tx := some f, slot := none
    counters := { s.clp.counters with
      replies := if s.clp.counters.replies < 4294967295 then s.clp.counters.replies + 1 else 4294967295 } } } := rfl

/-- The reply is sent at the end of a frame, and then a request may be taken (R192, R193). -/
theorem transmitEnd_reply {s : State} {f : Frame} (h : s.clp.slot = some f) : transmitEnd s = takeNext (sendReply f s) := by
  have full : takeNext { s with clp := { s.clp with tx := none } } = { s with clp := { s.clp with tx := none } } :=
    takeNext_stays (.inl (by simp [h]))
  have sent : startTx { s with clp := { s.clp with tx := none } } = sendReply f { s with clp := { s.clp with tx := none } } :=
    startTx_reply rfl h
  unfold transmitEnd pump
  rw [full, sent]
  rfl

/-- With no request left the transmitter alone acts. -/
theorem transmitEnd_alone {s : State} {f : Frame} (h : s.clp.slot = some f) (hb : s.clp.buffer = []) :
    transmitEnd s = sendReply f s := by
  rw [transmitEnd_reply h]
  exact takeNext_stays (.inr hb)

/-- The state in which the oldest request is served when the waiting reply has been sent (R192, R193). -/
def replySent (f : Frame) (rest : List Queued) (s : State) : State :=
  { sendReply f s with clp := { (sendReply f s).clp with buffer := rest } }

/-- The oldest request is served and its reply waits (R192). -/
theorem transmitEnd_takes {s : State} {f : Frame} {q : Queued} {rest : List Queued} (h : s.clp.slot = some f)
    (hb : s.clp.buffer = q :: rest) :
    transmitEnd s = { (serve q.req (replySent f rest s)).1 with clp := { (serve q.req (replySent f rest s)).1.clp with
      slot := some (replyFrame q (serve q.req (replySent f rest s)).2) } } := by
  have buffer : (sendReply f s).clp.buffer = q :: rest := hb
  rw [transmitEnd_reply h]
  unfold takeNext
  rw [buffer]
  rfl

/-- The reply to a request that is served while a frame is being sent waits in the slot (R192). -/
theorem withReply_busy {s : State} {f : Frame} (h : s.clp.tx = some f) (r : Frame) :
    withReply r s = { s with clp := { s.clp with slot := some r } } := by
  unfold withReply
  rw [h]

/-- The only request that waits is answered as its own row would be (R192). -/
theorem transmitEnd_last {s : State} {f : Frame} {q : Queued} {i : Instr} (h : s.clp.slot = some f) (hb : s.clp.buffer = [q])
    (hq : queuedOf i = some q) : exec .transmitEnd s = exec i (replySent f [] s) := by
  have sending : (serve q.req (replySent f [] s)).1.clp.tx = some f := by
    simp [serve_frame, replySent, sendReply_eq]
  rw [exec_request_free hq ⟨rfl, rfl⟩, withReply_busy sending, ← transmitEnd_takes h hb]
  rfl

/-- With no request waiting the end of a frame is the transmitter's choice alone. -/
theorem transmitEnd_report {s : State} (hb : s.clp.buffer = []) :
    transmitEnd s = startTx { s with clp := { s.clp with tx := none } } := by
  have empty : takeNext { s with clp := { s.clp with tx := none } } = { s with clp := { s.clp with tx := none } } :=
    takeNext_stays (.inr hb)
  unfold transmitEnd pump
  rw [empty]
  exact takeNext_stays (.inr (by simp [hb]))

/-! ### The report of lowest number (R193) -/

theorem reportKinds_before (k : ReportKind) :
    ReportKind.all = ReportKind.all.take k.code ++ k :: ReportKind.all.drop (k.code + 1) ∧
    ∀ j ∈ ReportKind.all.take k.code, j.code < k.code := by
  cases k <;> decide

/-- The pending kind below which none is pending is the next. -/
theorem nextReport_lowest {w : BitVec 9} {k : ReportKind} (h : w.getLsbD k.code = true)
    (low : ∀ j, j < k.code → w.getLsbD j = false) : nextReport w = some k := by
  obtain ⟨split, before⟩ := reportKinds_before k
  refine List.find?_eq_some_iff_append.2 ⟨h, _, _, split, fun j hj => ?_⟩
  rw [holdsKind, low j.code (before j hj)]
  rfl

/-! ### The contents of the reports (R202, section 11.8) -/

theorem fHoldCauses_eq :
    (fun c : Channel => [(if c.holdSource then 0x01 else 0) + (if c.holdLink then 0x02 else 0)]) = fHoldCauses :=
  funext fun c => (fSet_two c.holdSource c.holdLink).symm

theorem fBool_eq : (fun b : Bool => ([if b then 0x01 else 0x00] : List Byte)) = fBool := rfl

theorem fSpeed_written :
    (fun v : Int => if -32768 ≤ v ∧ v ≤ 32767 then bytesBE 2 v else bytesBE 2 (Config.speedCode v).toNat) = fSpeed :=
  funext fun v => (fSpeed_eq v).symm

theorem gradeReport_eq (s : State) : gradeReport s = [s.chL, s.chR].flatMap (fun c =>
    bytesBE 1 c.state.code ++ fBool (c.grade = 10) ++ bytesBE 2 c.dCmd ++ bytesBE 2 c.dMeas) := by
  simp only [gradeReport, gradeSide, f8, fDepth, Channel.onGrade, List.flatMap_cons, List.flatMap_nil, List.append_nil]

theorem telemetryReport_eq (s : State) : telemetryReport s =
    bytesBE 4 s.chainage ++ bytesBE 4 s.drum ++ fSpeed s.trc.advance ++ fSpeed s.trc.beltSpeed ++
      [s.chL, s.chR].flatMap (fun c =>
        bytesBE 1 c.state.code ++ bytesBE 2 c.dMeas ++ bytesBE 2 c.dCmd ++ bytesBE 2 c.valve) ++
      fBool s.lifted ++ fBool (s.cst.flags ≠ 0) ++ bytesBE 8 s.beltContent ++ bytesBE 1 s.load.parcels.length ++
      bytesBE 1 s.tqs.conveyor.code ++ fSpeed s.tqs.cmd ++ bytesBE 1 s.tqs.permit.code := by
  simp only [telemetryReport, telemetrySide, State.anyFlag, fChainage, fDepth, f8, f64, List.flatMap_cons, List.flatMap_nil,
    List.append_nil, List.append_assoc]

/-- The sending of a report as one update of CLP (R193). -/
theorem startTx_sends {s : State} {k : ReportKind} (ht : s.clp.tx = none) (hs : s.clp.slot = none)
    (hk : s.clp.waiting.getLsbD k.code = true) (low : ∀ j, j < k.code → s.clp.waiting.getLsbD j = false) :
    startTx s = { s with clp := { s.clp with
      tx := some ⟨BitVec.ofNat 8 (0xE0 + k.code), 0, reportContent k s⟩
      waiting := s.clp.waiting &&& ~~~(1#9 <<< k.code)
      counters := { s.clp.counters with
        reports := if s.clp.counters.reports < 4294967295 then s.clp.counters.reports + 1 else 4294967295 } } } := by
  rw [startTx_report ht hs (nextReport_lowest hk low)]
  rfl

end Sys2Proof.Machine

namespace Sys2Proof
open Machine

/-- Settles O48: the reply first and then a request, else the report of lowest number, and each report's bytes are its
layout. -/
theorem transmitEnd : Obligations.TransmitEnd := by
  refine ⟨fun s f q rest => ⟨fun h hb => ?_, ?_, fun h hb => ?_⟩, fun s f => ⟨startTx_busy,
    fun ht hs hw => ?_, fun ht hs => ?_⟩, ?_⟩
  · rw [← sendReply_eq, ← transmitEnd_alone h hb]
    rfl
  · rintro u i h hb rfl
    refine ⟨congrArg _ (transmitEnd_takes h hb), ?_, fun e => ?_, fun e => ?_⟩
    · rintro rfl hq
      exact transmitEnd_last h hb hq
    · rw [e]
      rfl
    · rw [e]
      rfl
  · rw [← transmitEnd_report hb]
    rfl
  · simp [startTx, ht, hs, (nextReport_none _).2 hw]
  · rw [startTx_reply ht hs, sendReply_eq]
  · rintro s k yes speed causes content ht hs hk low rfl rfl rfl written
    rw [fBool_eq, fHoldCauses_eq, fSpeed_written] at written
    suffices same : content = reportContent k s by
      rw [same]
      exact startTx_sends ht hs hk low
    rw [written]
    cases k with
    | state => simp only [reportContent, stateReport, f8, fLiftCauses, fSet_three]
    | grade => exact (gradeReport_eq s).symm
    | fault =>
      cases hl : s.cst.locus <;>
        simp only [reportContent, faultReport, fFlags, fLocus, f8, f16, f32, fChainage, State.anyFlag, hl, fOpt_some, fOpt_none]
    | truckFull =>
      cases hf : s.tqs.lastFull <;>
        simp only [reportContent, truckFullReport, fFullTruck, f8, f16, f32, hf, fOpt_some, fOpt_none]
    | permit => simp only [reportContent, permitReport, f8, f64, fReasons, fSet_four]
    | marker => rfl
    | scanner =>
      cases hl : s.ski .L <;> cases hr : s.ski .R <;>
        simp only [reportContent, scannerReport, skiSide, fScanCounters, f8, f32, fDepth, hl, hr, Option.map_some,
          Option.map_none, fOpt_some, fOpt_none, List.flatMap_cons, List.flatMap_nil, List.append_nil, List.append_assoc]
    | splice => simp only [reportContent, spliceReport, fSplice, f8, fChainage]
    | telemetry => exact (telemetryReport_eq s).symm

end Sys2Proof
end

section
/-! The course of a channel at a loop cycle (R24, R61 to R66, R68): goal, held goal, d_cmd and RETURNING. -/

namespace Sys2Proof.Machine

/-! ### Flags (R132) -/

theorem flagSet_setFlag (f : Flag) (s : State) : (setFlag f s).flagSet f = true := by
  have bit : f.bit.getLsbD f.code = true := by cases f <;> decide
  rw [State.flagSet, setFlag_flags, BitVec.getLsbD_or, bit, Bool.or_true]

/-- A flag stays set while flags are set (R132). -/
theorem flagSet_setFlagIf_mono (b : Bool) (f : Flag) {g : Flag} {s : State} (h : s.flagSet g = true) :
    (setFlagIf b f s).flagSet g = true := by
  cases b
  · exact h
  · unfold State.flagSet at h ⊢
    rw [setFlagIf, if_pos rfl, setFlag_flags, BitVec.getLsbD_or, h, Bool.true_or]

@[simp] theorem setFlagIf_ch (b : Bool) (f : Flag) (s : State) (x : Side) : (setFlagIf b f s).ch x = s.ch x := by
  cases x <;> simp

@[simp] theorem setFlag_ch (f : Flag) (s : State) (x : Side) : (setFlag f s).ch x = s.ch x := by
  cases x <;> simp

@[simp] theorem formPermit_ch (s : State) (x : Side) : (formPermit s).ch x = s.ch x := by
  cases x <;> simp

/-! ### What a cycle keeps of a channel beside its state, its valve and its grade -/

/-- Two values of a channel have one course: the settings, measures, goals and the ramp that steps 2 to 5 of a cycle read. They
may differ in state, hold causes, source validity, valve and grade. -/
structure SameCourse (c d : Channel) : Prop where
  mode : d.mode = c.mode
  depthSet : d.depthSet = c.depthSet
  trim : d.trim = c.trim
  heldGoal : d.heldGoal = c.heldGoal
  plate : d.plate = c.plate
  leg : d.leg = c.leg
  dMeas : d.dMeas = c.dMeas
  dCmd : d.dCmd = c.dCmd
  goal : d.goal = c.goal
  returning : d.returning = c.returning
  lastLifted : d.lastLifted = c.lastLifted

theorem SameCourse.trans {c d e : Channel} (h : SameCourse c d) (g : SameCourse d e) : SameCourse c e :=
  ⟨g.mode.trans h.mode, g.depthSet.trans h.depthSet, g.trim.trans h.trim, g.heldGoal.trans h.heldGoal, g.plate.trans h.plate,
    g.leg.trans h.leg, g.dMeas.trans h.dMeas, g.dCmd.trans h.dCmd, g.goal.trans h.goal, g.returning.trans h.returning,
    g.lastLifted.trans h.lastLifted⟩

/-- The loss or the regaining of a source leaves the course (R49). -/
theorem applySource_course (x : Side) (valid : Bool) (s : State) : SameCourse (s.ch x) ((applySource x valid s).ch x) := by
  unfold applySource
  dsimp only
  split
  · rw [setFlag_ch, formPermit_ch, changeChannel_ch]
    constructor <;> rfl
  · split <;> rw [setFlag_ch]
    · constructor <;> rfl
    · rw [formPermit_ch, changeChannel_ch]
      constructor <;> rfl
  · split
    · rw [formPermit_ch, changeChannel_ch]
      constructor <;> rfl
    · constructor <;> rfl
  · constructor <;> rfl

/-- The valve command leaves the course (R70). -/
theorem driveValve_course (x : Side) (e : Option Int) (s : State) : SameCourse (s.ch x) ((driveValve x e s).ch x) := by
  simp only [driveValve, setCh_ch, setFlagIf_ch]
  constructor <;> rfl

/-- The on-grade counter leaves the course (R71). -/
theorem keepGrade_course (x : Side) (b : Bool) (s : State) : SameCourse (s.ch x) ((keepGrade x b s).ch x) := by
  simp only [keepGrade, changeChannel_ch]
  constructor <;> rfl

/-- The channel after steps 3 and 4 (R61 to R66). -/
theorem goalAndRamp_ch (x : Side) (drum : Int) (lifted returning : Bool) (s : State) :
    (goalAndRamp x drum lifted returning s).ch x = { s.ch x with
      goal := (goalStep x drum lifted returning s).goal
      heldGoal := (goalStep x drum lifted returning s).held
      dCmd := rampStep s.env (goalStep x drum lifted returning s).goal (s.ch x).dCmd
      returning := returning && (goalStep x drum lifted returning s).goal ≠
        some (rampStep s.env (goalStep x drum lifted returning s).goal (s.ch x).dCmd) } := by
  simp [goalAndRamp, State.env]

/-- The depth sources of a side are read from its samples, the ski surfaces and the parameters (R58, R59, R108). -/
theorem weighted_congr {s t : State} {x : Side} (hp : (t.ch x).plate = (s.ch x).plate) (hl : (t.ch x).leg = (s.ch x).leg)
    (hspr : t.spr = s.spr) (hmpr : t.mpr = s.mpr) (hnow : t.now = s.now) : t.weighted x = s.weighted x := by
  have ski : t.ski x = s.ski x := by cases x <;> simp only [State.ski, hspr]
  have valid : t.skiValid x = s.skiValid x := by simp only [State.skiValid, ski, hspr, hnow]
  have tun : t.chTun x = s.chTun x := by cases x <;> simp only [State.chTun, hmpr]
  have offset : t.drumOffset x = s.drumOffset x := by cases x <;> simp only [State.drumOffset, State.cal, hmpr]
  simp only [State.weighted, State.sourceSP, State.sourceSK, hp, hl, ski, valid, tun, offset]

/-- The goal is read from the course, the parameters, the target, the plan and the return depth (R61 to R64, R66). -/
theorem goalStep_congr {s t : State} {x : Side} (hmode : (t.ch x).mode = (s.ch x).mode)
    (hset : (t.ch x).depthSet = (s.ch x).depthSet) (htrim : (t.ch x).trim = (s.ch x).trim)
    (hheld : (t.ch x).heldGoal = (s.ch x).heldGoal) (hplt : t.plt = s.plt) (hmpr : t.mpr = s.mpr)
    (ht : t.target = s.target) (hm : t.mlc = s.mlc) (drum : Int) (lifted returning : Bool) :
    goalStep x drum lifted returning t = goalStep x drum lifted returning s := by
  have look : t.lookup drum = s.lookup drum := lookup_congr (by rw [hplt]) hmpr drum
  simp only [goalStep, State.env, hmode, hset, htrim, hheld, look, hmpr, ht, hm]

/-! ### The cycle of an active channel, step by step (R56) -/

/-- RETURNING as step 2 leaves it (R66). -/
def State.cycleReturning (s : State) (x : Side) : Bool := returningAfter s.lifted (s.ch x)

/-- The control in use (R60). -/
def State.cycleControl (s : State) (x : Side) : Control := controlInUse (s.ch x).mode s.lifted (s.cycleReturning x)

/-- The state after step 2 (R49, R60, R66). -/
def sourced (x : Side) (s : State) : State :=
  applySource x (s.controlValid x (s.cycleControl x)) (s.setCh x { s.ch x with
    returning := s.cycleReturning x, lastLifted := s.lifted, sourceValid := s.controlValid x (s.cycleControl x) })

/-- The state after steps 3 and 4 (R61 to R66). -/
def ramped (x : Side) (drum : Int) (s : State) : State :=
  goalAndRamp x drum s.lifted (s.cycleReturning x) (sourced x s)

/-- The state after step 5 (R68). -/
def steered (x : Side) (drum : Int) (s : State) : State :=
  if s.cycleControl x = .slope then trackSlope x (ramped x drum s) else ramped x drum s

/-- Steps 6 to 8 drive the valve and count the grade (R67, R69 to R72). -/
theorem activeCycle_steered (x : Side) (drum : Int) (s : State) : ∃ b e, activeCycle x drum s =
    keepGrade x b (if ((steered x drum s).ch x).state = .auto then driveValve x e (steered x drum s)
      else steered x drum s) :=
  ⟨_, _, rfl⟩

@[simp] theorem sourced_frame (x : Side) (s : State) :
    (sourced x s).now = s.now ∧ (sourced x s).plt = s.plt ∧ (sourced x s).target = s.target ∧
    (sourced x s).mlc = s.mlc ∧ (sourced x s).spr = s.spr ∧ (sourced x s).mpr = s.mpr := by
  simp [sourced]

@[simp] theorem ramped_frame (x : Side) (drum : Int) (s : State) :
    (ramped x drum s).now = s.now ∧ (ramped x drum s).spr = s.spr ∧ (ramped x drum s).mpr = s.mpr := by
  simp [ramped]

theorem sourced_course (x : Side) (s : State) :
    SameCourse { s.ch x with returning := s.cycleReturning x, lastLifted := s.lifted } ((sourced x s).ch x) :=
  SameCourse.trans (by rw [setCh_ch]; constructor <;> rfl) (applySource_course x _ _)

/-- The goal of the cycle, read from the state that begins it. -/
def State.cycleGoal (s : State) (x : Side) (drum : Int) : GoalStep := goalStep x drum s.lifted (s.cycleReturning x) s

theorem sourced_goalStep (x : Side) (drum : Int) (s : State) :
    goalStep x drum s.lifted (s.cycleReturning x) (sourced x s) = s.cycleGoal x drum := by
  have course := sourced_course x s
  exact goalStep_congr course.mode course.depthSet course.trim course.heldGoal (by simp) (by simp) (by simp) (by simp) _ _ _

/-- The channel after steps 2 to 4 (R61 to R66). -/
theorem ramped_course (x : Side) (drum : Int) (s : State) : SameCourse { s.ch x with
    lastLifted := s.lifted
    goal := (s.cycleGoal x drum).goal
    heldGoal := (s.cycleGoal x drum).held
    dCmd := rampStep s.env (s.cycleGoal x drum).goal (s.ch x).dCmd
    returning := s.cycleReturning x && (s.cycleGoal x drum).goal ≠
      some (rampStep s.env (s.cycleGoal x drum).goal (s.ch x).dCmd) } ((ramped x drum s).ch x) := by
  have course := sourced_course x s
  have env : (sourced x s).env = s.env := by simp [State.env]
  unfold ramped
  rw [goalAndRamp_ch, sourced_goalStep, env, course.dCmd]
  exact ⟨course.mode, course.depthSet, course.trim, rfl, course.plate, course.leg, course.dMeas, rfl, rfl, rfl,
    course.lastLifted⟩

/-- Step 5 (R68). -/
theorem trackSlope_ch (x : Side) (s : State) : (trackSlope x s).ch x = { s.ch x with
    dCmd := if s.weighted x = [] then (s.ch x).dCmd else clamp (s.ch x).dMeas (-s.env.hLift) s.env.dmax } := by
  by_cases none : s.weighted x = [] <;> simp [trackSlope, State.depthValid, State.env, none]

/-- d_cmd after step 5: on the measured depth in slope control with a valid source, else where the ramp has left it
(R65, R68). -/
def State.cycleCmd (s : State) (x : Side) (drum : Int) : Int :=
  if s.cycleControl x = .slope ∧ s.weighted x ≠ [] then clamp (s.ch x).dMeas (-s.env.hLift) s.env.dmax
  else rampStep s.env (s.cycleGoal x drum).goal (s.ch x).dCmd

/-- Step 5 moves d_cmd alone. -/
theorem steered_ch (x : Side) (drum : Int) (s : State) :
    (steered x drum s).ch x = { (ramped x drum s).ch x with dCmd := s.cycleCmd x drum } := by
  have course := ramped_course x drum s
  have weighted : (ramped x drum s).weighted x = s.weighted x :=
    weighted_congr course.plate course.leg (by simp) (by simp) (by simp)
  have env : (ramped x drum s).env = s.env := by simp [State.env]
  unfold steered State.cycleCmd
  by_cases slope : s.cycleControl x = .slope
  · by_cases none : s.weighted x = [] <;>
      simp [slope, none, trackSlope_ch, weighted, env, course.dCmd, course.dMeas]
  · have cmd : ((ramped x drum s).ch x).dCmd = rampStep s.env (s.cycleGoal x drum).goal (s.ch x).dCmd := course.dCmd
    rw [if_neg slope, if_neg (fun h => slope h.1), ← cmd]

/-- The channel after a cycle in AUTO or HELD (R61 to R66, R68). -/
theorem activeCycle_course (x : Side) (drum : Int) (s : State) : SameCourse { s.ch x with
    lastLifted := s.lifted
    goal := (s.cycleGoal x drum).goal
    heldGoal := (s.cycleGoal x drum).held
    dCmd := s.cycleCmd x drum
    returning := s.cycleReturning x && (s.cycleGoal x drum).goal ≠
      some (rampStep s.env (s.cycleGoal x drum).goal (s.ch x).dCmd) } ((activeCycle x drum s).ch x) := by
  have course := ramped_course x drum s
  obtain ⟨b, e, eq⟩ := activeCycle_steered x drum s
  rw [eq]
  refine SameCourse.trans (d := (steered x drum s).ch x) ?_ (SameCourse.trans ?_ (keepGrade_course x b _))
  · rw [steered_ch]
    exact ⟨course.mode, course.depthSet, course.trim, course.heldGoal, course.plate, course.leg, course.dMeas, rfl,
      course.goal, course.returning, course.lastLifted⟩
  · split
    · exact driveValve_course x e _
    · constructor <;> rfl

/-- The CLAMP flag of a goal that the clamp has moved is set (R64). -/
theorem activeCycle_clamped {x : Side} {drum : Int} {s : State} (h : (s.cycleGoal x drum).clamped s.lifted = true) :
    (activeCycle x drum s).flagSet (clampFlagOf x) = true := by
  have ramped_flag : (ramped x drum s).flagSet (clampFlagOf x) = true := by
    have flag := flagSet_setFlag (clampFlagOf x) (sourced x s)
    unfold State.flagSet at flag ⊢
    simpa [ramped, goalAndRamp, sourced_goalStep, h, setFlagIf] using flag
  have steered_flag : (steered x drum s).flagSet (clampFlagOf x) = true := by
    unfold steered State.flagSet
    split
    · simpa [State.flagSet] using ramped_flag
    · exact ramped_flag
  obtain ⟨b, e, eq⟩ := activeCycle_steered x drum s
  rw [eq]
  suffices driven : (if ((steered x drum s).ch x).state = .auto then driveValve x e (steered x drum s)
      else steered x drum s).flagSet (clampFlagOf x) = true by simpa [State.flagSet] using driven
  split
  · simpa [driveValve, State.flagSet] using flagSet_setFlagIf_mono _ (satFlagOf x) steered_flag
  · exact steered_flag

/-! ### What a cycle reads (R56 to R59) -/

/-- The state in which the goal of a cycle is formed: the markers evaluated on the left, the sensors sampled, the sources fused
(R57 to R59, R79). -/
def measured (x : Side) (plate leg slope : Nat) (s : State) : State :=
  fuseSources x (sampleSensors x plate leg slope (if x = .L then evaluateMarkers s.drum s else s))

/-- The measures touch neither the plan nor the parameters, and no channel's state. -/
theorem measured_frame (x : Side) (plate leg slope : Nat) (s : State) :
    (measured x plate leg slope s).plt = s.plt ∧ (measured x plate leg slope s).mpr = s.mpr ∧
    (measured x plate leg slope s).target = s.target ∧ (measured x plate leg slope s).anyAuto = s.anyAuto := by
  cases x <;> simp [measured, fuseSources, sampleSensors, State.anyAuto]

/-- Of the channel the measures touch the samples and d_meas alone. -/
theorem measured_ch (x : Side) (plate leg slope : Nat) (s : State) :
    (measured x plate leg slope s).ch x = { s.ch x with
      plate := ((measured x plate leg slope s).ch x).plate, leg := ((measured x plate leg slope s).ch x).leg
      slope := ((measured x plate leg slope s).ch x).slope, rawPlate := plate, rawLeg := leg
      dMeas := ((measured x plate leg slope s).ch x).dMeas } := by
  cases x <;> simp [measured, fuseSources, sampleSensors]

/-- A cycle of a channel in AUTO or HELD (R56). -/
theorem loopCycle_active {x : Side} {s : State} (h : (s.ch x).state = .auto ∨ (s.ch x).state = .held)
    (plate leg slope : Nat) :
    loopCycle x plate leg slope s = activeCycle x s.drum (measured x plate leg slope s) := by
  have state : ((measured x plate leg slope s).ch x).state = (s.ch x).state := by rw [measured_ch]
  unfold loopCycle
  dsimp only
  rw [← measured, state]
  obtain h | h := h <;> rw [h]

theorem anyAuto_iff (s : State) : s.anyAuto = true ↔ s.chL.state = .auto ∨ s.chR.state = .auto := by
  simp only [State.anyAuto, Bool.or_eq_true, decide_eq_true_eq]

/-- The drum is lifted while a cause is present and a channel is in AUTO (R86). -/
theorem lifted_iff (s : State) : s.lifted = true ↔ s.mlc.causes ≠ ⟨false, false, false⟩ ∧ s.anyAuto = true := by
  have nonEmpty : ∀ c : LiftCauses, c.nonEmpty = true ↔ c ≠ ⟨false, false, false⟩ := by
    rintro ⟨_ | _, _ | _, _ | _⟩ <;> decide
  rw [State.lifted, Bool.and_eq_true, nonEmpty]

/-! ### The goal, case by case (R61 to R66) -/

/-- A goal within 0 to Dmax, with the goal before its clamp (R64). -/
def cutStep (e : Envelope) (raw held : Int) : GoalStep := ⟨some (clamp raw 0 e.dmax), raw, held⟩

section
variable {x : Side} {s : State} (drum : Int)

/-- A lifted drum heads for −H_lift (R61). -/
theorem goalStep_lifted (returning : Bool) :
    goalStep x drum true returning s = ⟨some (-s.env.hLift), -s.env.hLift, (s.ch x).heldGoal⟩ := rfl

/-- A DEPTH side under SET heads for setpoint + trim (R62). -/
theorem goalStep_set (returning : Bool) (mode : (s.ch x).mode = .depth) (target : s.target = .set) :
    goalStep x drum false returning s = cutStep s.env ((s.ch x).depthSet + (s.ch x).trim) (s.ch x).heldGoal := by
  simp [goalStep, mode, target, cutStep, cutGoal]

/-- A DEPTH side under PLAN heads for plan depth + trim, which becomes the held goal (R24, R63). -/
theorem goalStep_plan_cut (returning : Bool) (mode : (s.ch x).mode = .depth) (target : s.target = .plan) {d : Int}
    (h : (s.lookup drum).depth x = some d) :
    goalStep x drum false returning s =
      cutStep s.env (d + (s.ch x).trim) (clamp (d + (s.ch x).trim) 0 s.env.dmax) := by
  simp [goalStep, mode, target, h, cutStep, cutGoal]

/-- A DEPTH side under PLAN without a plan depth heads for the held goal (R24, R63). -/
theorem goalStep_plan_uncut (returning : Bool) (mode : (s.ch x).mode = .depth) (target : s.target = .plan)
    (h : (s.lookup drum).depth x = none) :
    goalStep x drum false returning s = cutStep s.env (s.ch x).heldGoal (s.ch x).heldGoal := by
  simp [goalStep, mode, target, h, cutStep, cutGoal]

/-- A RETURNING SLOPE side heads for the return depth (R66). -/
theorem goalStep_returning (mode : (s.ch x).mode = .slope) :
    goalStep x drum false true s =
      cutStep s.env (s.mlc.returnDepth.getD ((s.ch x).depthSet + (s.ch x).trim)) (s.ch x).heldGoal := by
  simp [goalStep, mode, cutStep, cutGoal]

/-- A SLOPE side in slope control has no goal (R68). -/
theorem goalStep_slope (mode : (s.ch x).mode = .slope) :
    goalStep x drum false false s = ⟨none, 0, (s.ch x).heldGoal⟩ := by
  simp [goalStep, mode]

end

/-- The plan depth of a side where a CUT segment covers the drum (R23). -/
theorem lookup_depth_cut {s : State} {c : Int} {g : Segment}
    (h : s.plt.plan.find? (fun h => Segment.covers h c) = some g) (cut : g.cut = true) (x : Side) :
    (s.lookup c).depth x = some (if x = .L then g.l0 + Int.tdiv ((g.l1 - g.l0) * (c - g.start)) g.length
      else g.r0 + Int.tdiv ((g.r1 - g.r0) * (c - g.start)) g.length) := by
  unfold State.lookup lookupPlan
  rw [h]
  cases x <;> simp [Lookup.depth, cut, Segment.leftAt, Segment.rightAt, lineDepth, truncDiv]

/-- There is no plan depth where no CUT segment covers the drum (R20, R21). -/
theorem lookup_depth_uncut {s : State} {c : Int}
    (h : ∀ g, s.plt.plan.find? (fun h => Segment.covers h c) = some g → g.cut = false) (x : Side) :
    (s.lookup c).depth x = none := by
  unfold State.lookup lookupPlan
  cases found : s.plt.plan.find? (fun h => Segment.covers h c) with
  | none => cases x <;> rfl
  | some g => cases x <;> simp [Lookup.depth, h g found]

/-- The clamp of a cut goal takes effect outside 0 to Dmax (R64). -/
theorem cutStep_clamped {e : Envelope} {raw held : Int} (h : raw < 0 ∨ e.dmax < raw) :
    (cutStep e raw held).clamped false = true := by
  have moved : clamp raw 0 e.dmax ≠ raw := by
    unfold clamp
    split
    · omega
    · split <;> omega
  simp [GoalStep.clamped, cutStep, moved]

/-! ### The cycle's goals -/

/-- What a cycle with a clamped goal leaves (R64). -/
theorem activeCycle_cut {x : Side} {drum raw held : Int} {m : State} (lifted : m.lifted = false)
    (goal : m.cycleGoal x drum = cutStep m.env raw held) :
    ((activeCycle x drum m).ch x).goal = some (clamp raw 0 m.env.dmax) ∧
    ((activeCycle x drum m).ch x).heldGoal = held ∧
    (raw < 0 ∨ m.env.dmax < raw → (activeCycle x drum m).cst.flags.getLsbD (if x = .L then 2 else 5) = true) := by
  have course := activeCycle_course x drum m
  refine ⟨by rw [course.goal, goal]; rfl, by rw [course.heldGoal, goal]; rfl, fun outside => ?_⟩
  have flag := activeCycle_clamped (x := x) (drum := drum) (s := m) (by rw [goal, lifted]; exact cutStep_clamped outside)
  cases x <;> exact flag

/-- Slope control is in use on a SLOPE side that is neither lifted nor RETURNING (R60). -/
theorem cycleControl_slope_iff (m : State) (x : Side) : m.cycleControl x = .slope ↔
    (m.ch x).mode = .slope ∧ m.lifted = false ∧ m.cycleReturning x = false := by
  unfold State.cycleControl controlInUse
  cases (m.ch x).mode <;> cases m.lifted <;> cases m.cycleReturning x <;> decide

/-- In slope control there is no goal (R68). -/
theorem cycleGoal_slope {m : State} {x : Side} (drum : Int) (h : m.cycleControl x = .slope) :
    m.cycleGoal x drum = ⟨none, 0, (m.ch x).heldGoal⟩ := by
  obtain ⟨mode, lifted, returning⟩ := (cycleControl_slope_iff m x).1 h
  unfold State.cycleGoal
  rw [lifted, returning, goalStep_slope drum mode]

theorem cycleCmd_depth {m : State} {x : Side} (drum : Int) (h : m.cycleControl x ≠ .slope) :
    m.cycleCmd x drum = rampStep m.env (m.cycleGoal x drum).goal (m.ch x).dCmd :=
  if_neg fun both => h both.1

/-- RETURNING ends when d_cmd reaches the goal (R66). -/
theorem activeCycle_returning (x : Side) (drum : Int) (m : State) :
    ((activeCycle x drum m).ch x).returning = true ↔ m.cycleReturning x = true ∧
      ((activeCycle x drum m).ch x).goal ≠ some ((activeCycle x drum m).ch x).dCmd := by
  have course := activeCycle_course x drum m
  rw [course.returning, course.goal, course.dCmd, Bool.and_eq_true, decide_eq_true_eq]
  refine and_congr_right fun returning => ?_
  rw [cycleCmd_depth drum fun slope => by simp [((cycleControl_slope_iff m x).1 slope).2.2] at returning]

/-- d_cmd moves to a goal at the rate of the direction (R65). -/
theorem activeCycle_ramp {x : Side} {drum g : Int} {m : State} (h : ((activeCycle x drum m).ch x).goal = some g) :
    ((activeCycle x drum m).ch x).dCmd = ramp m.env (m.ch x).dCmd g := by
  have course := activeCycle_course x drum m
  have goal : (m.cycleGoal x drum).goal = some g := course.goal.symm.trans h
  have depth : m.cycleControl x ≠ .slope := fun slope => by simp [cycleGoal_slope drum slope] at goal
  rw [course.dCmd, cycleCmd_depth drum depth, goal]
  rfl

/-- A SLOPE side in slope control keeps d_cmd on its measured depth (R68). -/
theorem activeCycle_slope {x : Side} (drum : Int) {m : State} (slope : m.cycleControl x = .slope) :
    ((activeCycle x drum m).ch x).goal = none ∧ ((activeCycle x drum m).ch x).heldGoal = (m.ch x).heldGoal ∧
    ((activeCycle x drum m).weighted x ≠ [] → ((activeCycle x drum m).ch x).dCmd =
      clamp ((activeCycle x drum m).ch x).dMeas (-m.env.hLift) m.env.dmax) ∧
    ((activeCycle x drum m).weighted x = [] → ((activeCycle x drum m).ch x).dCmd = (m.ch x).dCmd) := by
  have course := activeCycle_course x drum m
  have goal := cycleGoal_slope drum slope
  have weighted : (activeCycle x drum m).weighted x = m.weighted x :=
    weighted_congr course.plate course.leg (by simp) (by simp) (by simp)
  rw [weighted, course.goal, course.heldGoal, course.dCmd, course.dMeas, goal]
  refine ⟨rfl, rfl, fun sources => if_pos ⟨slope, sources⟩, fun none => ?_⟩
  unfold State.cycleCmd
  rw [if_neg fun both => both.2 none, goal]
  rfl

/-- The ramp by direction (R65). -/
theorem ramp_spec (e : Envelope) (cmd g : Int) :
    (g < cmd → ramp e cmd g = max g (cmd - e.ru)) ∧ (cmd < g → ramp e cmd g = min g (cmd + e.rd)) ∧
    (g = cmd → ramp e cmd g = g) := by
  unfold ramp
  refine ⟨fun h => if_pos h, fun h => ?_, fun h => ?_⟩
  · rw [if_neg (by omega), if_pos h]
  · rw [if_neg (by omega), if_neg (by omega), h]

/-- Settles O23: the measures leave what the goal is read from, and each clause is a case of the goal or a fact of the ramp. -/
theorem loopCycleGoals : Obligations.LoopCycleGoals := by
  intro s x plate leg slope active
  have cycle := loopCycle_active active plate leg slope
  generalize hm : measured x plate leg slope s = m at cycle
  have ch := hm ▸ measured_ch x plate leg slope s
  obtain ⟨plt, mpr, target, anyAuto⟩ := hm ▸ measured_frame x plate leg slope s
  have mode : (m.ch x).mode = (s.ch x).mode := by rw [ch]
  have depthSet : (m.ch x).depthSet = (s.ch x).depthSet := by rw [ch]
  have trim : (m.ch x).trim = (s.ch x).trim := by rw [ch]
  have held : (m.ch x).heldGoal = (s.ch x).heldGoal := by rw [ch]
  have dCmd : (m.ch x).dCmd = (s.ch x).dCmd := by rw [ch]
  have last : (m.ch x).lastLifted = (s.ch x).lastLifted := by rw [ch]
  have returning : (m.ch x).returning = (s.ch x).returning := by rw [ch]
  have env : m.env = s.env := congrArg (fun p => p.params.env) mpr
  have plan : m.plt.plan = s.plt.plan := congrArg Plt.plan plt
  have mlc : (activeCycle x s.drum m).mlc = m.mlc := by simp
  rw [← depthSet, ← trim, ← held, ← dCmd, ← mode, ← last, ← returning, ← env, ← plan, ← target]
  refine ⟨activeCycle x s.drum m, m.lifted, m.cycleReturning x, ?_, ?_, rfl, (activeCycle_course x s.drum m).lastLifted,
    activeCycle_returning x s.drum m, fun lifted => ?_, ?_, ?_, ?_, ?_, fun lifted mode ret => ?_, fun g hg => ?_⟩
  · rw [← cycle]
    rfl
  · rw [mlc, ← anyAuto_iff, ← anyAuto, lifted_iff]
  · have course := activeCycle_course x s.drum m
    have goal : m.cycleGoal x s.drum = _ := (congrArg (goalStep x s.drum · _ m) lifted).trans (goalStep_lifted s.drum _)
    rw [course.goal, course.heldGoal, goal]
    exact ⟨rfl, rfl⟩
  · rintro raw lifted mode target rfl
    exact activeCycle_cut lifted ((congrArg (goalStep x s.drum · _ m) lifted).trans (goalStep_set s.drum _ mode target))
  · rintro raw g lifted mode target found cut rfl
    exact activeCycle_cut lifted ((congrArg (goalStep x s.drum · _ m) lifted).trans
      (goalStep_plan_cut s.drum _ mode target (lookup_depth_cut found cut x)))
  · rintro raw lifted mode target uncut rfl
    exact activeCycle_cut lifted ((congrArg (goalStep x s.drum · _ m) lifted).trans
      (goalStep_plan_uncut s.drum _ mode target (lookup_depth_uncut uncut x)))
  · rintro raw lifted mode ret rfl
    refine activeCycle_cut lifted ?_
    unfold State.cycleGoal
    rw [lifted, ret, goalStep_returning s.drum mode, mlc]
    cases m.mlc.returnDepth <;> rfl
  · exact activeCycle_slope s.drum ((cycleControl_slope_iff m x).2 ⟨mode, lifted, ret⟩)
  · rw [activeCycle_ramp hg]
    exact ramp_spec m.env (m.ch x).dCmd g

end Sys2Proof.Machine
end

section
/-! The depth channels (chapter 3), operation by operation: what ENGAGE, entering OFF, link silence and the loss of a source make of one
channel, and the reports of a channel's change. -/

namespace Sys2Proof.Machine

/-! ### A channel's change and its reports (R52, R72) -/

theorem stateDiffers_iff (c d : Channel) : c.stateDiffers d = true ↔
    c.state ≠ d.state ∨ c.holdSource ≠ d.holdSource ∨ c.holdLink ≠ d.holdLink := by
  simp only [Channel.stateDiffers, Bool.or_eq_true, decide_eq_true_eq, or_assoc]

theorem setCh_self (x : Side) (s : State) : s.setCh x (s.ch x) = s := by cases x <;> rfl

/-- A channel that takes the value it has changes nothing. -/
@[simp] theorem changeChannel_self (x : Side) (s : State) : changeChannel x (s.ch x) s = s := by
  simp [changeChannel, Channel.stateDiffers, setCh_self]

/-- The reports of a change do not depend on the kinds that were allowed to join. -/
theorem reportsMade.narrow {k m : BitVec 9} {s t : State} (h : reportsMade k s t) (g : reportsAdded m s t) :
    reportsMade m s t := ⟨g, h.2⟩

theorem reportsAdded_queueIf_of (b : Bool) (k : ReportKind) {m : BitVec 9} (hm : b = true → k.bit &&& m = k.bit) (s : State) :
    reportsAdded m s (queueIf b k s) := by
  cases b
  · exact reportsAdded_of_eq m rfl
  · exact reportsAdded_queueReport k (hm rfl) s

/-- A channel's change queues STATE only where its state or its causes change, and GRADE only where ON_GRADE does (R52, R72). -/
theorem reportsMade_changeChannel_of {x : Side} {c : Channel} {m : BitVec 9} {s : State}
    (hs : c.stateDiffers (s.ch x) = true → ReportKind.state.bit &&& m = ReportKind.state.bit)
    (hg : c.onGrade ≠ (s.ch x).onGrade → ReportKind.grade.bit &&& m = ReportKind.grade.bit) :
    reportsMade m s (changeChannel x c s) := by
  refine (reportsMade_changeChannel x c (m := 0b000000011) (by decide) (by decide) s).narrow ?_
  refine (reportsAdded_of_eq m ?_).trans ((reportsAdded_queueIf_of _ .state hs (s.setCh x c)).trans
    (reportsAdded_queueIf_of _ .grade (fun h => hg (of_decide_eq_true h)) _))
  cases x <;> rfl

/-- A channel that keeps its state, its causes and its grade calls for no report. -/
theorem reportsMade_setCh {x : Side} {c : Channel} (m : BitVec 9) {s : State} (hs : c.state = (s.ch x).state)
    (ho : c.holdSource = (s.ch x).holdSource) (hl : c.holdLink = (s.ch x).holdLink) (hg : c.grade = (s.ch x).grade) :
    reportsMade m s (s.setCh x c) := by
  refine reportsMade_of_same (reportsAdded_of_eq m (by simp)) (fun y => ?_) (by simp) (by simp) (by simp) (by simp) (by simp)
  by_cases e : y = x
  · subst e
    rw [setCh_ch]
    exact ⟨hs, ho, hl, hg⟩
  · obtain rfl : y = x.other := by cases x <;> cases y <;> simp_all [Side.other]
    rw [setCh_ch_other]
    exact ⟨rfl, rfl, rfl, rfl⟩

/-- A changed channel state or hold-cause set is reported where STATE is enabled (R52). -/
theorem reportsMade.state_pending {m : BitVec 9} {s t : State} (h : reportsMade m s t) (x : Side)
    (changed : (t.ch x).state ≠ (s.ch x).state ∨ (t.ch x).holdSource ≠ (s.ch x).holdSource ∨
      (t.ch x).holdLink ≠ (s.ch x).holdLink) (enabled : s.clp.enabled.getLsbD 0 = true) :
    t.clp.waiting.getLsbD 0 = true := by
  obtain ⟨-, state, -⟩ := h
  exact state (.inl ⟨x, changed⟩) enabled

/-- A changed ON_GRADE is reported where GRADE is enabled (R72). -/
theorem reportsMade.grade_pending {m : BitVec 9} {s t : State} (h : reportsMade m s t) (x : Side)
    (changed : (t.ch x).onGrade ≠ (s.ch x).onGrade) (enabled : s.clp.enabled.getLsbD 1 = true) :
    t.clp.waiting.getLsbD 1 = true := by
  obtain ⟨-, -, grade, -⟩ := h
  exact grade ⟨x, changed⟩ enabled

/-- A changed permit is reported where PERMIT is enabled (R175). -/
theorem reportsMade.permit_pending {m : BitVec 9} {s t : State} (h : reportsMade m s t) (changed : t.tqs.permit ≠ s.tqs.permit)
    (enabled : s.clp.enabled.getLsbD 4 = true) : t.clp.waiting.getLsbD 4 = true := by
  obtain ⟨-, -, -, -, -, permit⟩ := h
  exact permit changed enabled

@[simp] theorem changeChannel_ch_other (x : Side) (c : Channel) (s : State) :
    (changeChannel x c s).ch x.other = s.ch x.other := by
  cases x <;> simp [changeChannel, Side.other]

/-- The channel of either side after a change of one. -/
theorem changeChannel_ch_eq (x y : Side) (c : Channel) (s : State) :
    (changeChannel x c s).ch y = if y = x then c else s.ch y := by
  cases x <;> cases y <;> simp

/-! ### The sides a request names (R202) -/

theorem sidesOf_cases {side : Nat} {sides : List Side} (h : sidesOf side = some sides) :
    sides = [.L] ∨ sides = [.R] ∨ sides = [.L, .R] := by
  unfold sidesOf at h
  split at h <;> simp_all

theorem sidesOf_of_le {side : Nat} (h : side ≤ 2) :
    ∃ sides, sidesOf side = some sides ∧ ∀ x, x ∈ sides ↔ side = 2 ∨ side = (if x = .L then 0 else 1) := by
  interval_cases side
  · exact ⟨_, rfl, fun x => by cases x <;> simp⟩
  · exact ⟨_, rfl, fun x => by cases x <;> simp⟩
  · exact ⟨_, rfl, fun x => by cases x <;> simp⟩

theorem sideOf_code (x : Side) : sideOf (if x = .L then 0 else 1) = some x := by cases x <;> rfl

/-! ### ENGAGE (R45) -/

/-- The channel that ENGAGE makes of a named one (R45). -/
def Channel.engaged (e : Envelope) (c : Channel) : Channel :=
  match c.state with
  | .off =>
    { c with
      state := .auto, dCmd := clamp c.dMeas (-e.hLift) e.dmax, heldGoal := clamp c.dMeas (-e.hLift) e.dmax, grade := 0
      returning := false, lastLifted := false }
  | .held => { c with state := .auto, holdSource := false, holdLink := false }
  | .auto => c
  | .jog => c

theorem engageOne_eq (x : Side) (s : State) : engageOne s x = changeChannel x ((s.ch x).engaged s.env) s := by
  unfold engageOne Channel.engaged
  dsimp only
  cases (s.ch x).state <;> simp

theorem engaged_ch (s : State) {side : Nat} {sides : List Side} (h : sidesOf side = some sides) (y : Side) :
    (sides.foldl engageOne s).ch y = if y ∈ sides then (s.ch y).engaged s.env else s.ch y := by
  obtain rfl | rfl | rfl := sidesOf_cases h <;> cases y <;> simp [engageOne_eq, State.env]

theorem reportsMade_engage {m : BitVec 9} (hs : ReportKind.state.bit &&& m = ReportKind.state.bit)
    (hg : ReportKind.grade.bit &&& m = ReportKind.grade.bit) (sides : List Side) (s : State) :
    reportsMade m s (sides.foldl engageOne s) := by
  induction sides generalizing s with
  | nil => exact reportsMade_of_kept rfl rfl rfl rfl rfl rfl rfl rfl
  | cons x rest ih =>
    refine reportsMade.trans ?_ (ih (engageOne s x))
    rw [engageOne_eq]
    exact reportsMade_changeChannel x _ hs hg s

@[simp] theorem engage_frame (sides : List Side) (s : State) :
    (sides.foldl engageOne s).now = s.now ∧ (sides.foldl engageOne s).eStop = s.eStop ∧
    (sides.foldl engageOne s).trc = s.trc ∧ (sides.foldl engageOne s).plt = s.plt ∧
    (sides.foldl engageOne s).target = s.target ∧ (sides.foldl engageOne s).slopeRaw = s.slopeRaw ∧
    (sides.foldl engageOne s).mlc = s.mlc ∧ (sides.foldl engageOne s).spr = s.spr ∧ (sides.foldl engageOne s).chd = s.chd ∧
    (sides.foldl engageOne s).cst = s.cst ∧ (sides.foldl engageOne s).load = s.load ∧
    (sides.foldl engageOne s).tqs = s.tqs ∧ (sides.foldl engageOne s).mpr = s.mpr ∧
    (sides.foldl engageOne s).freeUsed = s.freeUsed ∧ (sides.foldl engageOne s).pending = s.pending := by
  induction sides generalizing s with
  | nil => simp
  | cons x rest ih => simp [ih, engageOne_eq]

/-! ### Entering OFF (R46, R89) -/

/-- The channel that entering OFF makes (R46). -/
def Channel.switchedOff (c : Channel) : Channel := if c.state = .off then c else c.toOff

theorem switchedOff_state (c : Channel) : c.switchedOff.state = .off := by
  unfold Channel.switchedOff
  split
  next h => exact h
  next => rfl

theorem enterOff_ch_eq (x y : Side) (s : State) :
    (enterOff x s).ch y = if y = x then (s.ch y).switchedOff else s.ch y := by
  cases x <;> cases y <;> simp [Channel.switchedOff]

theorem anyAuto_congr {s t : State} (hl : t.chL = s.chL) (hr : t.chR = s.chR) : t.anyAuto = s.anyAuto := by
  simp only [State.anyAuto, hl, hr]

theorem enterOff_anyAuto_le {x : Side} {s : State} (h : (enterOff x s).anyAuto = true) : s.anyAuto = true := by
  have off : ∀ c : Channel, c.switchedOff.state ≠ .auto := fun c => by simp [switchedOff_state]
  rw [anyAuto_iff, ← ch_L, ← ch_R, enterOff_ch_eq, enterOff_ch_eq] at h
  rw [anyAuto_iff]
  cases x <;> simp_all

/-- A lift-cause set that gains no first cause captures no return depth (R91). -/
theorem setCauses_mlc_shrunk {c : LiftCauses} {s : State} (h : c.nonEmpty = true → s.mlc.causes.nonEmpty = true) :
    (setCauses c s).mlc = { s.mlc with causes := c } := by
  rw [setCauses_mlc_eq, setCauses_returnDepth, if_neg]
  cases hc : c.nonEmpty <;> simp_all

theorem dropManual_mlc (s : State) :
    (dropManual s).mlc = { s.mlc with causes := { s.mlc.causes with manual := false } } := by
  refine setCauses_mlc_shrunk fun h => ?_
  simp only [LiftCauses.nonEmpty, Bool.false_or] at h ⊢
  rw [Bool.or_assoc, h, Bool.or_true]

/-- A channel that was not in AUTO enters OFF without any effect on MANUAL. -/
theorem enterOff_not_auto {x : Side} {s : State} (h : (s.ch x).state ≠ .auto) :
    enterOff x s = changeChannel x (s.ch x).switchedOff s := by
  rw [enterOff_eq, Channel.switchedOff]
  split
  · simp
  · rw [if_neg (fun both => h both.1)]

theorem enterOff_anyAuto_of_not_auto {x : Side} {s : State} (h : (s.ch x).state ≠ .auto) :
    (enterOff x s).anyAuto = s.anyAuto := by
  have off := switchedOff_state
  cases x <;> simp_all [State.anyAuto, enterOff_not_auto h]

/-- MANUAL goes when the last channel in AUTO enters OFF (R89). -/
theorem enterOff_mlc (x : Side) (s : State) : (enterOff x s).mlc =
    if s.anyAuto = true ∧ (enterOff x s).anyAuto = false then
      { s.mlc with causes := { s.mlc.causes with manual := false } } else s.mlc := by
  by_cases auto : (s.ch x).state = .auto
  · have any : s.anyAuto = true := by
      rw [anyAuto_iff]
      cases x
      · exact .inl auto
      · exact .inr auto
    have not_off : (s.ch x).state ≠ .off := by simp [auto]
    rw [enterOff_eq, if_neg not_off]
    split
    next last =>
      obtain ⟨-, none_left⟩ := last
      rw [if_pos ⟨any, none_left ▸ anyAuto_congr (by simp) (by simp)⟩, dropManual_mlc]
      simp
    next others =>
      rw [if_neg fun h => others ⟨auto, h.2⟩]
      simp
  · rw [enterOff_anyAuto_of_not_auto auto, if_neg (by simp), enterOff_not_auto auto]
    simp

/-- Entering OFF changes a channel, and MANUAL with the last one in AUTO: STATE, and GRADE where ON_GRADE falls (R52, R72,
R86). -/
theorem reportsMade_enterOff {m : BitVec 9} (hs : ReportKind.state.bit &&& m = ReportKind.state.bit)
    (hg : ReportKind.grade.bit &&& m = ReportKind.grade.bit) (x : Side) (s : State) : reportsMade m s (enterOff x s) := by
  have changed := reportsMade_changeChannel x (s.ch x).toOff hs hg s
  rw [enterOff_eq]
  split
  · exact reportsMade_of_kept rfl rfl rfl rfl rfl rfl rfl rfl
  · split
    · exact changed.trans (reportsMade_setCauses _ hs _)
    · exact changed

/-- What entering OFF, of one side or of several in turn, makes of the part beside the channels themselves. -/
structure Disengaged (m : BitVec 9) (s t : State) : Prop where
  anyAuto : t.anyAuto = true → s.anyAuto = true
  mlc : t.mlc = if s.anyAuto = true ∧ t.anyAuto = false then
    { s.mlc with causes := { s.mlc.causes with manual := false } } else s.mlc
  reports : reportsMade m s t

theorem Disengaged.trans {m : BitVec 9} {s t u : State} (h : Disengaged m s t) (g : Disengaged m t u) : Disengaged m s u := by
  refine ⟨fun a => h.anyAuto (g.anyAuto a), ?_, h.reports.trans g.reports⟩
  have before := h.anyAuto
  have after := g.anyAuto
  rw [g.mlc, h.mlc]
  cases hs : s.anyAuto <;> cases ht : t.anyAuto <;> cases hu : u.anyAuto <;> simp_all

/-- Of MLC entering OFF moves the causes alone. -/
theorem Disengaged.mlc_with_causes {m : BitVec 9} {s t : State} (h : Disengaged m s t) (c : LiftCauses) :
    { t.mlc with causes := c } = { s.mlc with causes := c } := by
  rw [h.mlc]
  split <;> rfl

theorem disengage_foldl {m : BitVec 9} (hs : ReportKind.state.bit &&& m = ReportKind.state.bit)
    (hg : ReportKind.grade.bit &&& m = ReportKind.grade.bit) (sides : List Side) (s : State) :
    Disengaged m s (sides.foldl (fun t x => enterOff x t) s) := by
  induction sides generalizing s with
  | nil => exact ⟨id, by simp, reportsMade_of_kept rfl rfl rfl rfl rfl rfl rfl rfl⟩
  | cons x rest ih =>
    exact Disengaged.trans ⟨enterOff_anyAuto_le, enterOff_mlc x s, reportsMade_enterOff hs hg x s⟩ (ih (enterOff x s))

theorem disengage_ch (s : State) {side : Nat} {sides : List Side} (h : sidesOf side = some sides) (y : Side) :
    (sides.foldl (fun t x => enterOff x t) s).ch y = if y ∈ sides then (s.ch y).switchedOff else s.ch y := by
  obtain rfl | rfl | rfl := sidesOf_cases h <;> cases y <;> simp [Channel.switchedOff]

@[simp] theorem disengage_frame (sides : List Side) (s : State) :
    (sides.foldl (fun t x => enterOff x t) s).now = s.now ∧ (sides.foldl (fun t x => enterOff x t) s).eStop = s.eStop ∧
    (sides.foldl (fun t x => enterOff x t) s).trc = s.trc ∧ (sides.foldl (fun t x => enterOff x t) s).plt = s.plt ∧
    (sides.foldl (fun t x => enterOff x t) s).target = s.target ∧
    (sides.foldl (fun t x => enterOff x t) s).slopeRaw = s.slopeRaw ∧
    (sides.foldl (fun t x => enterOff x t) s).spr = s.spr ∧ (sides.foldl (fun t x => enterOff x t) s).chd = s.chd ∧
    (sides.foldl (fun t x => enterOff x t) s).cst = s.cst ∧ (sides.foldl (fun t x => enterOff x t) s).load = s.load ∧
    (sides.foldl (fun t x => enterOff x t) s).tqs = s.tqs ∧ (sides.foldl (fun t x => enterOff x t) s).mpr = s.mpr ∧
    (sides.foldl (fun t x => enterOff x t) s).freeUsed = s.freeUsed ∧
    (sides.foldl (fun t x => enterOff x t) s).pending = s.pending := by
  induction sides generalizing s with
  | nil => simp
  | cons x rest ih => simp [ih]

/-! ### Link silence (R50) -/

/-- The channel that link silence makes (R50). -/
def Channel.linkHeld (c : Channel) : Channel :=
  match c.state with
  | .auto => { c with state := .held, holdSource := false, holdLink := true, valve := 0, grade := 0 }
  | .held => { c with holdLink := true }
  | .jog => c.toOff
  | .off => c

theorem linkHold_eq (x : Side) (s : State) : linkHold x s = changeChannel x (s.ch x).linkHeld s := by
  unfold linkHold Channel.linkHeld
  dsimp only
  cases h : (s.ch x).state <;> simp [enterOff_not_auto, h, Channel.switchedOff]

end Sys2Proof.Machine
end

section
/-! The requests of the depth channels (R45 to R48, R53 to R55), the E-stop line (R51, R90, R176) and link silence (R50,
R197). -/

namespace Sys2Proof.Machine

/-- A formed permit is what R174 gives for the state that the forming leaves (R175). -/
theorem formPermit_tqs_of {s u : State} (h : u.tqs = s.tqs) : (formPermit u).tqs =
    { s.tqs with permit := (formPermit u).permitOf, reasons := (formPermit u).reasonsOf } := by
  obtain ⟨permit, reasons⟩ := formPermit_formed u
  rw [← permit, ← reasons, formPermit_tqs, h]

theorem formPermit_mlc (s : State) : (formPermit s).mlc = s.mlc := by simp

/-! ### ENGAGE (R45) -/

theorem controlIfEngaged_eq (s : State) (x : Side) : s.controlIfEngaged x =
    if s.mlc.causes.nonEmpty = true ∨ (s.ch x).mode = .depth then .depth else .slope := by
  simp only [State.controlIfEngaged, Bool.or_eq_true, decide_eq_true_eq]

/-- ENGAGE, accepted (R45). -/
theorem serveEngage_accepted {s : State} {side : Nat} {sides : List Side} (h : sidesOf side = some sides)
    (released : s.eStop = false) (commissioned : s.canEngage = true) (no_jog : ∀ x ∈ sides, (s.ch x).state ≠ .jog)
    (sources : ∀ x ∈ sides, (s.ch x).state ≠ .auto → s.engageable x = true) :
    serveEngage side s = accept [] (formPermit (sides.foldl engageOne s)) := by
  have jog : ¬(sides.any fun x => (s.ch x).state = .jog) = true := by simpa using no_jog
  have source : ¬(sides.any fun x =>
      ((s.ch x).state = .off || (s.ch x).state = .held) && !s.engageable x) = true := by
    simp only [List.any_eq_true, Bool.and_eq_true, Bool.or_eq_true, decide_eq_true_eq, Bool.not_eq_true', not_exists, not_and]
    intro x named resting
    rw [sources x named (by rcases resting with e | e <;> simp [e])]
    decide
  unfold serveEngage
  rw [h]
  dsimp only
  rw [if_neg (by simp [released]), if_neg (by simp [commissioned]), if_neg jog, if_neg source]

/-- Settles O18: the checks pass, and each named channel is the engaged one. -/
theorem engageAccepted : Obligations.EngageAccepted := by
  intro s tag side named free released w dd ppm le hnamed no_jog sources
  obtain ⟨sides, hsides, mem⟩ := sidesOf_of_le le
  have named_iff : ∀ x, named x ↔ x ∈ sides := fun x => (hnamed x).trans (mem x).symm
  have commissioned : s.canEngage = true := by
    simp only [State.canEngage, Bool.and_eq_true, Option.isSome_iff_ne_none]
    exact ⟨⟨w, dd⟩, ppm⟩
  have served := serveEngage_accepted hsides released commissioned
    (fun x hx => no_jog x ((named_iff x).2 hx)) (fun x hx auto => by
      rw [State.engageable, controlIfEngaged_eq]
      exact sources x ((named_iff x).2 hx) auto)
  have ch := engaged_ch s hsides
  refine ⟨_, exec_answered (q := ⟨tag, .engage side⟩) rfl free served, fun x hx off => ?_, fun x hx held => ?_,
    fun x hx => ?_, ?_, ?_, ?_⟩
  · rw [formPermit_ch, ch, if_pos ((named_iff x).1 hx), Channel.engaged, off]
  · rw [formPermit_ch, ch, if_pos ((named_iff x).1 hx), Channel.engaged, held]
  · rw [formPermit_ch, ch]
    split
    next hm => rw [Channel.engaged, hx.resolve_left (not_not.2 ((named_iff x).2 hm))]
    next => rfl
  · exact formPermit_tqs_of (by simp)
  · exact (reportsMade_engage (by decide) (by decide) sides s).trans (reportsMade_formPermit (by decide) _)
  · apply State.eq_of_fields <;> simp

/-! ### DISENGAGE, JOG_EXPIRY and JOG (R46 to R48) -/

/-- The channel that JOG makes (R47). -/
def Channel.jogged (v : Int) (duration : Nat) (c : Channel) : Channel :=
  { c with state := .jog, jogValue := v, jogLeft := duration, valve := v }

/-- JOG, accepted (R47). -/
theorem serveJog_accepted {s : State} {x : Side} {duration : Nat} (valve : Int) (released : s.eStop = false)
    (resting : (s.ch x).state = .off ∨ (s.ch x).state = .jog) (low : 10 ≤ duration) (high : duration ≤ 1000) :
    let v := clamp valve (-s.env.vmax) s.env.vmax
    serveJog (if x = .L then 0 else 1) valve duration s =
      acceptClamped (v ≠ valve) (formPermit (changeChannel x ((s.ch x).jogged v duration) s)) := by
  have idle : ¬((s.ch x).state = .auto ∨ (s.ch x).state = .held) := by
    rcases resting with e | e <;> simp [e]
  unfold serveJog
  rw [sideOf_code]
  dsimp only
  rw [if_neg (by omega), if_neg (by simp [released]), if_neg idle]
  rfl

/-- The result code of a request that may have clamped its value (R47, R54, R55). -/
theorem acceptClamped_eq (v given : Int) (s : State) :
    acceptClamped (v ≠ given) s = (s, ⟨if v = given then .ok else .okClamped, []⟩) := by
  by_cases e : v = given <;> simp [acceptClamped, e]

theorem okCode_eq (p : Prop) [Decidable p] :
    (if p then ResultCode.ok else .okClamped).code = if p then 0x00 else 0x01 := by
  split <;> rfl

/-- A channel in JOG that enters OFF moves nothing but itself, the permit and the reports (R48). -/
theorem jogExpiry_jogging {x : Side} {s : State} (h : (s.ch x).state = .jog) :
    jogExpiry x s = formPermit (changeChannel x (s.ch x).toOff s) := by
  rw [jogExpiry, if_pos h, enterOff_not_auto (by simp [h]), Channel.switchedOff, if_neg (by simp [h])]

/-- Settles O19: each named channel is the one switched off, a jog that has run out as well, and a jog drives the clamped
valve. -/
theorem disengageAndJog : Obligations.DisengageAndJog := by
  intro s tag side x valve duration free
  refine ⟨fun le => ?_, fun jogging => ?_, fun released resting low high => ?_⟩
  · obtain ⟨sides, hsides, mem⟩ := sidesOf_of_le le
    have served : serveDisengage side s = accept [] (formPermit (sides.foldl (fun t x => enterOff x t) s)) := by
      rw [serveDisengage, hsides]
    have moved := disengage_foldl (m := 0b000010011) (by decide) (by decide) sides s
    have ch := disengage_ch s hsides
    refine ⟨_, exec_answered (q := ⟨tag, .disengage side⟩) rfl free served, fun y => ?_, ?_, ?_, ?_, ?_⟩
    · rw [formPermit_ch, ch, Channel.switchedOff]
      simp only [← mem y]
      by_cases hy : y ∈ sides
      · by_cases off : (s.ch y).state = .off
        · rw [if_pos hy, if_pos off, if_neg fun both => both.2 off]
        · rw [if_pos hy, if_neg off, if_pos ⟨hy, off⟩]
          rfl
      · rw [if_neg hy, if_neg fun both => hy both.1]
    · rw [anyAuto_congr (t := formPermit _) (s := sides.foldl (fun t x => enterOff x t) s) (by simp) (by simp)]
      exact (formPermit_mlc _).trans moved.mlc
    · exact formPermit_tqs_of (by simp)
    · exact moved.reports.trans (reportsMade_formPermit (by decide) _)
    · apply State.eq_of_fields <;> simp
  · refine ⟨jogExpiry x s, rfl, ?_⟩
    rw [jogExpiry_jogging jogging]
    refine ⟨?_, ?_, ?_, ?_, ?_⟩
    · rw [formPermit_ch, changeChannel_ch]
      rfl
    · rw [formPermit_ch, changeChannel_other]
    · exact formPermit_tqs_of (by simp)
    · exact (reportsMade_changeChannel x _ (by decide) (by decide) s).trans (reportsMade_formPermit (by decide) _)
    · apply State.eq_of_fields <;> simp
  · let v := clamp valve (-s.env.vmax) s.env.vmax
    refine ⟨formPermit (changeChannel x ((s.ch x).jogged v duration) s), v, ?_, rfl, ?_, ?_, ?_, ?_, ?_⟩
    · rw [← okCode_eq]
      refine exec_answered (q := ⟨tag, .jog _ valve duration⟩) rfl free ?_
      exact (serveJog_accepted valve released resting low high).trans (acceptClamped_eq _ _ _)
    · rw [formPermit_ch, changeChannel_ch]
      rfl
    · rw [formPermit_ch, changeChannel_other]
    · exact formPermit_tqs_of (by simp)
    · refine (reportsMade_changeChannel_of (fun _ => by decide) (fun grade => ?_)).trans (reportsMade_formPermit (by decide) _)
      exact absurd rfl grade
    · apply State.eq_of_fields <;> simp

/-! ### The operator values (R53 to R55) -/

/-- MLC forms PLAN again: the set moves and the return depth with it (R85, R91). -/
theorem reformPlan_mlc (s : State) : (reformPlan s).mlc = { s.mlc with
    causes := { s.mlc.causes with plan := s.planCause }, returnDepth := (reformPlan s).mlc.returnDepth } :=
  setCauses_mlc_eq _ s

/-- Both sides under depth control to the plan (R53). -/
def planSelected (s : State) : State :=
  { s with chL := { s.chL with mode := .depth }, chR := { s.chR with mode := .depth }, target := .plan }

theorem selectTarget_plan (s : State) : selectTarget .plan s = formPermit (reformPlan (planSelected s)) := rfl

theorem selectTarget_set (s : State) : selectTarget .set s = formPermit (reformPlan { s with target := .set }) := rfl

/-- A write of the modes and of the target source is no change that a report follows (R53). -/
theorem reportsMade_planSelected (m : BitVec 9) (s : State) : reportsMade m s (planSelected s) :=
  reportsMade_of_same (reportsAdded_of_eq m rfl) (fun x => by cases x <;> exact ⟨rfl, rfl, rfl, rfl⟩) rfl rfl rfl rfl rfl

theorem reportsMade_selectTarget (s : State) {u : State} (h : reportsMade 0b000010001 s u) :
    reportsMade 0b000010001 s (formPermit (reformPlan u)) :=
  h.trans ((reportsMade_setCauses _ (by decide) u).trans (reportsMade_formPermit (by decide) _))

/-- SET_POINT, accepted (R54). -/
theorem serveSetPoint_accepted {s : State} {x : Side} {m : SideMode} {depth : Int} (slope : Int) (low : 0 ≤ depth)
    (high : depth ≤ 3500) (allowed : m = .slope → s.target = .set ∧ (s.ch x.other).mode = .depth) :
    let v := clamp slope (-s.env.smax) s.env.smax
    serveSetPoint (if x = .L then 0 else 1) m.code depth slope s =
      acceptClamped (v ≠ slope) (s.setCh x { s.ch x with mode := m, depthSet := depth, slopeSet := v }) := by
  have mode : modeOf m.code = some m := by cases m <;> rfl
  unfold serveSetPoint
  rw [sideOf_code, mode]
  dsimp only
  rw [if_neg (by simp [within, low, high]), if_neg fun refused => refused.2 (allowed refused.1)]

/-- Settles O20: PLAN under both target sources, and the operator values written and clamped. -/
theorem operatorValues : Obligations.OperatorValues := by
  intro s tag x depth slope trim free
  refine ⟨⟨selectTarget .plan s, exec_answered (q := ⟨tag, .selectTarget 0⟩) rfl free rfl, ?_⟩,
    ⟨selectTarget .set s, exec_answered (q := ⟨tag, .selectTarget 1⟩) rfl free rfl, ?_⟩, fun m low high allowed => ?_, ?_⟩
  · rw [selectTarget_plan]
    refine ⟨?_, ?_, ?_, reportsMade_selectTarget s (reportsMade_planSelected _ s), ?_⟩
    · rw [formPermit_mlc, reformPlan_mlc]
      simp [planSelected, State.planCause]
    · rw [returnDepthFormed, formPermit_mlc]
      exact setCauses_formed _ (planSelected s)
    · exact formPermit_tqs_of (by simp [planSelected])
    · apply State.eq_of_fields <;> simp [planSelected]
  · rw [selectTarget_set]
    refine ⟨?_, ?_, reportsMade_selectTarget s (reportsMade_of_kept rfl rfl rfl rfl rfl rfl rfl rfl), ?_⟩
    · have shrinks : ∀ c : LiftCauses, ({ c with plan := false } : LiftCauses).nonEmpty = true → c.nonEmpty = true := by
        rintro ⟨_ | _, _ | _, _ | _⟩ <;> decide
      have withdrawn : ({ s with target := .set } : State).planCause = false := by simp [State.planCause]
      rw [formPermit_mlc, reformPlan, withdrawn]
      exact setCauses_mlc_shrunk (shrinks _)
    · exact formPermit_tqs_of (by simp)
    · apply State.eq_of_fields <;> simp
  · rw [← okCode_eq]
    exact exec_answered (q := ⟨tag, .setPoint _ m.code depth slope⟩) rfl free
      ((serveSetPoint_accepted slope low high allowed).trans (acceptClamped_eq _ _ _))
  · rw [← okCode_eq]
    refine exec_answered (q := ⟨tag, .setTrim _ trim⟩) rfl free ?_
    rw [← acceptClamped_eq]
    simp only [serve, serveSetTrim, sideOf_code]

/-! ### The refusals under E-stop (R45, R47, R51, R87, R88, R167) -/

/-- Settles O7: each request's first check that fails is the one named. -/
theorem eStopRefusals : Obligations.EStopRefusals := by
  intro s tag free stopped
  refine ⟨fun side le => ?_, fun side valve duration le low high => ?_, ?_, fun left right => ?_⟩
  · obtain ⟨sides, hsides, -⟩ := sidesOf_of_le le
    refine exec_answered (q := ⟨tag, .engage side⟩) (code := .estop) rfl free ?_
    simp only [serve, serveEngage, hsides, stopped, if_true]
    rfl
  · have named : sideOf side ≠ none := by interval_cases side <;> simp [sideOf]
    obtain ⟨x, hx⟩ := Option.ne_none_iff_exists'.1 named
    refine exec_answered (q := ⟨tag, .jog side valve duration⟩) (code := .estop) rfl free ?_
    simp only [serve, serveJog, hx, stopped, if_true]
    exact if_neg (by omega)
  · refine exec_answered (q := ⟨tag, .conveyorStart⟩) (code := .estop) rfl free ?_
    exact if_pos stopped
  · have idle : s.anyAuto = false := by simp [State.anyAuto, left, right]
    refine ⟨exec_answered (q := ⟨tag, .lift⟩) (code := .state) rfl free ?_,
      exec_answered (q := ⟨tag, .returnDrum⟩) (code := .state) rfl free ?_⟩
    · exact if_neg (by simp [idle])
    · exact if_pos (by simp [idle])

/-! ### The E-stop line (R51, R90, R91, R175, R176) -/

/-- The permit under E-stop (R174). -/
theorem permitOf_eStop {s : State} (h : s.eStop = true) : s.permitOf = .stop ∧ s.reasonsOf.estop = true := by
  have stop : s.permitOf = .stop := by simp [State.permitOf, h]
  exact ⟨stop, by rw [State.reasonsOf, stop]; exact h⟩

/-- A formed permit that is STOP, with the reasons of the state that the forming leaves. -/
theorem formPermit_tqs_stop {s u : State} (h : u.tqs = s.tqs) (stop : u.permitOf = .stop) : (formPermit u).tqs =
    { s.tqs with permit := .stop, reasons := (formPermit u).reasonsOf } := by
  obtain ⟨permit, reasons⟩ := formPermit_formed u
  rw [← reasons, formPermit_tqs, h, stop]

/-- What both channels and the lift-cause set have become when the line is asserted, before the conveyor stops (R51, R90). -/
def liftsStopped (s : State) : State := setCauses .empty (enterOff .R (enterOff .L (setEStop true s)))

theorem assertEStop_eq (s : State) : assertEStop s = formPermit (eStopConveyor (liftsStopped s)) := rfl

@[simp] theorem liftsStopped_frame (s : State) :
    (liftsStopped s).eStop = true ∧ (liftsStopped s).tqs = s.tqs ∧
    (liftsStopped s).chL = s.chL.switchedOff ∧ (liftsStopped s).chR = s.chR.switchedOff := by
  simp [liftsStopped, setEStop, Channel.switchedOff]

theorem liftsStopped_mlc (s : State) : (liftsStopped s).mlc = { s.mlc with causes := .empty } := by
  have moved := disengage_foldl (m := 0b000000011) (by decide) (by decide) [.L, .R] (setEStop true s)
  rw [liftsStopped, setCauses_mlc_shrunk fun h => absurd h (by decide)]
  exact moved.mlc_with_causes .empty

/-- The conveyor of the line's assertion: a stopped one stays as it is (R176). -/
theorem eStopConveyor_tqs (s : State) : (eStopConveyor s).tqs = { s.tqs with
    conveyor := .stopped
    cmd := if s.tqs.conveyor = .stopped then s.tqs.cmd else 0
    stall := if s.tqs.conveyor = .stopped then s.tqs.stall else 0 } := by
  unfold eStopConveyor
  split
  next stopped =>
    simp only [← stopped]
  next running => rw [stopConveyor_tqs]

theorem reportsMade_eStopConveyor {m : BitVec 9} (hm : ReportKind.state.bit &&& m = ReportKind.state.bit) (s : State) :
    reportsMade m s (eStopConveyor s) := by
  unfold eStopConveyor
  split
  · exact reportsMade_of_kept rfl rfl rfl rfl rfl rfl rfl rfl
  · exact reportsMade_stopConveyor hm s

theorem reportsMade_liftsStopped (s : State) : reportsMade 0b000010011 s (liftsStopped s) :=
  (reportsMade_of_kept rfl rfl rfl rfl rfl rfl rfl rfl).trans
    ((disengage_foldl (by decide) (by decide) [.L, .R] (setEStop true s)).reports.trans
      (reportsMade_setCauses _ (by decide) _))

theorem reportsMade_assertEStop (s : State) : reportsMade 0b000010011 s (assertEStop s) :=
  (reportsMade_liftsStopped s).trans ((reportsMade_eStopConveyor (by decide) _).trans (reportsMade_formPermit (by decide) _))

theorem assertEStop_ch (s : State) (x : Side) : (assertEStop s).ch x = (s.ch x).switchedOff := by
  cases x <;> simp [assertEStop_eq]

theorem assertEStop_mlc (s : State) : (assertEStop s).mlc = { s.mlc with causes := .empty } := by
  rw [← liftsStopped_mlc]
  simp [assertEStop_eq]

theorem assertEStop_tqs (s : State) : (assertEStop s).tqs = { s.tqs with
    conveyor := .stopped
    cmd := if s.tqs.conveyor = .stopped then s.tqs.cmd else 0
    stall := if s.tqs.conveyor = .stopped then s.tqs.stall else 0
    permit := .stop
    reasons := (assertEStop s).reasonsOf } := by
  rw [assertEStop_eq, formPermit_tqs_stop rfl (permitOf_eStop (by simp)).1, eStopConveyor_tqs]
  simp

theorem assertEStop_eStop (s : State) : (assertEStop s).eStop = true := by simp [assertEStop_eq]

/-- MLC forms the set again at the release (R90). -/
theorem releaseEStop_mlc (s : State) : (releaseEStop s).mlc =
    { s.mlc with causes := (releaseEStop s).mlc.causes, returnDepth := (releaseEStop s).mlc.returnDepth } := by
  rw [releaseEStop, formPermit_mlc, reformAfterEStop, setCauses_causes]
  exact setCauses_mlc_eq _ (setEStop false s)

theorem releaseEStop_causes (s : State) : (releaseEStop s).mlc.causes =
    ⟨false, s.plt.disposition.lifts && s.target = .plan, s.mlc.markers.any (fun k => k.state = .active)⟩ := by
  rw [releaseEStop, formPermit_mlc, reformAfterEStop, setCauses_causes]
  simp [State.causesReformed, State.planCause, State.windowCause, setEStop]
  rfl

/-- Settles O6: the assertion block by block, with its reports from the changes it makes, and the release. -/
theorem eStopLine : Obligations.EStopLine := by
  refine ⟨fun s => ?_, fun s => ?_⟩
  · have reports := reportsMade_assertEStop s
    have ch := assertEStop_ch s
    have tqs := assertEStop_tqs s
    have stop : (assertEStop s).tqs.permit = .stop := by rw [tqs]
    have reasons : (assertEStop s).tqs.reasons = (assertEStop s).reasonsOf := by rw [tqs]
    refine ⟨assertEStop s, rfl, assertEStop_eStop s, ?_, ?_, fun x => ?_, assertEStop_mlc s, tqs, ?_, ?_, ?_, ?_, ?_, reports,
      ?_⟩
    · exact (congrArg Channel.state (ch .L)).trans (switchedOff_state _)
    · exact (congrArg Channel.state (ch .R)).trans (switchedOff_state _)
    · exact ch x
    · rw [State.slowLine, stop]; rfl
    · rw [State.stopLine, stop]; rfl
    · rw [reasons]
      exact (permitOf_eStop (assertEStop_eStop s)).2
    · intro caused enabled
      obtain ⟨-, state, -⟩ := reports
      exact state (.inr (.inl (by rw [assertEStop_mlc]; exact Ne.symm caused))) enabled
    · exact fun moved => reports.permit_pending (by rw [stop]; exact Ne.symm moved)
    · apply State.eq_of_fields <;> simp [assertEStop_eStop]
  · refine ⟨releaseEStop s, rfl, releaseEStop_causes s, releaseEStop_mlc s, ?_, ?_, ?_, ?_⟩
    · rw [returnDepthFormed, releaseEStop, formPermit_mlc]
      exact setCauses_formed _ (setEStop false s)
    · exact formPermit_tqs_of (by simp [reformAfterEStop, setEStop])
    · exact (reportsMade_of_kept rfl rfl rfl rfl rfl rfl rfl rfl).trans
        ((reportsMade_setCauses _ (by decide) (setEStop false s)).trans (reportsMade_formPermit (by decide) _))
    · apply State.eq_of_fields <;> simp [releaseEStop, reformAfterEStop, setEStop]

/-! ### Link silence and telemetry (R50, R196, R197) -/

/-- CLP has found the link silent (R197). -/
def silenceFound (s : State) : State :=
  { s with clp := { s.clp with silent := true, silence := s.tun.silenceTimeout.toNat } }

theorem linkSilence_found {s : State} (on : 0 < s.tun.silenceTimeout) (heard : s.clp.silent = false) :
    linkSilence s = formPermit (linkHold .R (linkHold .L (silenceFound s))) := if_pos ⟨on, heard⟩

theorem linkHolds_ch (s : State) (x : Side) : (linkHold .R (linkHold .L s)).ch x = (s.ch x).linkHeld := by
  cases x <;> simp [linkHold_eq]

theorem reportsMade_linkHold {m : BitVec 9} (hs : ReportKind.state.bit &&& m = ReportKind.state.bit)
    (hg : ReportKind.grade.bit &&& m = ReportKind.grade.bit) (x : Side) (s : State) : reportsMade m s (linkHold x s) := by
  rw [linkHold_eq]
  exact reportsMade_changeChannel x _ hs hg s

/-- The permit on a silent link (R174). -/
theorem permitOf_silent {s : State} (h : s.clp.silent = true) : s.permitOf = .stop ∧ s.reasonsOf.link = true := by
  have stop : s.permitOf = .stop := by simp [State.permitOf, h]
  exact ⟨stop, by rw [State.reasonsOf, stop]; exact h⟩

/-- Silence changes the state or the causes of a channel that is not OFF and not held by LINK already (R50). -/
theorem linkHeld_differs {c : Channel} (h : c.state = .auto ∨ c.state = .jog ∨ c.state = .held ∧ c.holdLink = false) :
    c.linkHeld.state ≠ c.state ∨ c.linkHeld.holdSource ≠ c.holdSource ∨ c.linkHeld.holdLink ≠ c.holdLink := by
  unfold Channel.linkHeld
  obtain e | e | ⟨e, free⟩ := h
  · simp [e]
  · simp [e, Channel.toOff]
  · simp [e, free]

/-- Settles O50: each channel is the one that silence holds, and the reports follow from the changes. -/
theorem silenceAndTelemetry : Obligations.SilenceAndTelemetry := by
  intro s
  refine ⟨fun on heard => ?_, fun on => ?_⟩
  · have eq := linkSilence_found on heard
    have ch : ∀ x, (linkSilence s).ch x = (s.ch x).linkHeld := fun x => by
      rw [eq, formPermit_ch, linkHolds_ch]
      cases x <;> rfl
    have reports : reportsMade 0b000010011 (silenceFound s) (linkSilence s) := by
      rw [eq]
      exact (reportsMade_linkHold (by decide) (by decide) .L _).trans
        ((reportsMade_linkHold (by decide) (by decide) .R _).trans (reportsMade_formPermit (by decide) _))
    have found : ∀ x, (silenceFound s).ch x = s.ch x := fun x => by cases x <;> rfl
    have silent : (linkSilence s).clp.silent = true := by rw [eq]; simp [silenceFound]
    have tqs : (linkSilence s).tqs = { s.tqs with permit := .stop, reasons := (linkSilence s).reasonsOf } := by
      rw [eq]
      exact formPermit_tqs_stop (by simp [silenceFound]) (permitOf_silent (by simp [silenceFound])).1
    refine ⟨linkSilence s, silenceFound s, rfl, rfl, fun x auto => ?_, fun x held => ?_, fun x jog => ?_, fun x off => ?_,
      tqs, ?_, fun x moved => ?_, fun x auto grade => ?_, fun moved => ?_, reports, ?_⟩
    · rw [ch, Channel.linkHeld, auto]
    · simp only [ch, Channel.linkHeld, held]
    · rw [ch, Channel.linkHeld, jog]
      rfl
    · rw [ch, Channel.linkHeld, off]
    · rw [tqs]
      exact (permitOf_silent silent).2
    · refine reports.state_pending x ?_
      rw [ch, found]
      exact linkHeld_differs moved
    · refine reports.grade_pending x ?_
      rw [ch, found, Channel.linkHeld, auto]
      simp [Channel.onGrade, grade]
    · exact reports.permit_pending (by rw [tqs]; exact Ne.symm moved)
    · rw [eq]
      apply State.eq_of_fields <;> simp [silenceFound]
      simp [linkHold_eq]
  · have queued : telemetryPeriod s = queueReport .telemetry { s with clp := { s.clp with telemetry := 0 } } := if_pos on
    rw [show exec .telemetryPeriod s = .next (startTx (telemetryPeriod s)) from rfl, queued, queueReport_eq]
    rfl

end Sys2Proof.Machine
end

section
/-! A loop cycle step by step (R56): the markers it evaluates, the sources it loses or regains, the valve it drives, the grade it
counts, and its reports. -/

namespace Sys2Proof.Machine

/-! ### The loss and the regaining of a source (R49) -/

/-- The channel that step 2 makes of one by the validity of its control source (R49). -/
def Channel.judged (valid : Bool) (c : Channel) : Channel :=
  match c.state, valid with
  | .auto, false => { c with state := .held, holdSource := true, holdLink := false, valve := 0 }
  | .held, false => { c with holdSource := true }
  | .held, true =>
    if c.holdSource then { c with holdSource := false, state := if c.holdLink then .held else .auto } else c
  | _, _ => c

/-- Step 2 judges a channel by its state and its causes, and moves these and the valve alone. -/
theorem Channel.judged_eq (valid : Bool) (c : Channel) : c.judged valid = { c with
    state := (c.judged valid).state, holdSource := (c.judged valid).holdSource
    holdLink := (c.judged valid).holdLink, valve := (c.judged valid).valve } := by
  unfold Channel.judged
  (repeat' split) <;> rfl

theorem Channel.judged_with (valid : Bool) (c : Channel) (returning lifted source : Bool) :
    ({ c with returning := returning, lastLifted := lifted, sourceValid := source } : Channel).judged valid =
      { c.judged valid with returning := returning, lastLifted := lifted, sourceValid := source } := by
  unfold Channel.judged
  dsimp only
  (repeat' split) <;> rfl

/-- A channel in AUTO or HELD without a source for its control (R49). -/
def Channel.lost (valid : Bool) (c : Channel) : Bool := (c.state = .auto || c.state = .held) && !valid

/-- Step 2 changes the channel, forms the permit of a changed one again, and sets SRCLOSS where the source is lost (R49). -/
theorem applySource_eq (x : Side) (valid : Bool) (s : State) :
    applySource x valid s = setFlagIf ((s.ch x).lost valid) (srcLossFlagOf x)
      (if (s.ch x).judged valid = s.ch x then s else formPermit (changeChannel x ((s.ch x).judged valid) s)) := by
  unfold applySource Channel.judged Channel.lost
  generalize s.ch x = c
  rcases c with ⟨state, source, link⟩
  cases state <;> cases valid <;> cases source <;> simp [setFlagIf]

theorem applySource_ch (x : Side) (valid : Bool) (s : State) : (applySource x valid s).ch x = (s.ch x).judged valid := by
  rw [applySource_eq, setFlagIf_ch]
  split
  next same => exact same.symm
  next => rw [formPermit_ch, changeChannel_ch]

theorem applySource_other (x : Side) (valid : Bool) (s : State) : (applySource x valid s).ch x.other = s.ch x.other := by
  rw [applySource_eq, setFlagIf_ch]
  split
  · rfl
  · rw [formPermit_ch, changeChannel_other]

theorem setFlagIf_flags (b : Bool) (f : Flag) (s : State) :
    (setFlagIf b f s).cst.flags = s.cst.flags ||| (if b then f.bit else 0) := by
  cases b
  · simp [setFlagIf]
  · exact setFlag_flags f s

theorem applySource_flags (x : Side) (valid : Bool) (s : State) : (applySource x valid s).cst.flags =
    s.cst.flags ||| (if (s.ch x).lost valid then (srcLossFlagOf x).bit else 0) := by
  rw [applySource_eq, setFlagIf_flags]
  split <;> simp

/-- A channel that step 2 leaves as it is, with its source, leaves the whole state. -/
theorem applySource_kept {x : Side} {valid : Bool} {s : State} (same : (s.ch x).judged valid = s.ch x)
    (found : (s.ch x).lost valid = false) : applySource x valid s = s := by
  rw [applySource_eq, if_pos same, found]
  rfl

/-- The reports of step 2 (R52, R139, R175). -/
theorem reportsMade_applySource {m : BitVec 9} (hs : ReportKind.state.bit &&& m = ReportKind.state.bit)
    (hp : ReportKind.permit.bit &&& m = ReportKind.permit.bit) (hf : ReportKind.fault.bit &&& m = ReportKind.fault.bit)
    (x : Side) (valid : Bool) (s : State) : reportsMade m s (applySource x valid s) := by
  have grade : ((s.ch x).judged valid).onGrade = (s.ch x).onGrade := by rw [Channel.judged_eq]; rfl
  rw [applySource_eq]
  refine reportsMade.trans ?_ (reportsMade_setFlagIf _ _ hf _)
  split
  · exact reportsMade_of_kept rfl rfl rfl rfl rfl rfl rfl rfl
  · exact (reportsMade_changeChannel_of (fun _ => hs) (fun moved => absurd grade moved)).trans
      (reportsMade_formPermit hp _)

/-- The permit after step 2: formed again where the channel has changed (R175). -/
theorem applySource_tqs (x : Side) (valid : Bool) (s : State) : (applySource x valid s).tqs =
    { s.tqs with permit := (applySource x valid s).tqs.permit, reasons := (applySource x valid s).tqs.reasons } := by
  rw [applySource_eq]
  split <;> simp

/-! ### What the permit is formed from (R174) -/

theorem setFlagIf_tqs (b : Bool) (f : Flag) (s : State) : (setFlagIf b f s).tqs = s.tqs := by simp


/-- Of a channel the permit reads the state and the cause SOURCE alone (R174). -/
theorem permitOf_congr_ch {s t : State} (he : t.eStop = s.eStop) (hs : t.clp.silent = s.clp.silent)
    (hch : ∀ x, (t.ch x).state = (s.ch x).state ∧ (t.ch x).holdSource = (s.ch x).holdSource) (ht : t.target = s.target)
    (hd : t.plt.disposition = s.plt.disposition) (hc : t.tqs.conveyor = s.tqs.conveyor)
    (hp : t.load.parcels = s.load.parcels) (hm : t.mpr = s.mpr) :
    t.permitOf = s.permitOf ∧ t.reasonsOf = s.reasonsOf := by
  obtain ⟨⟨lState, lSource⟩, rState, rSource⟩ := And.intro (hch .L) (hch .R)
  simp only [ch_L, ch_R] at lState lSource rState rSource
  have asks : t.sourceInput = ({ t with chL := s.chL, chR := s.chR } : State).sourceInput := by
    simp only [State.sourceInput, Channel.asksSlow, lState, lSource, rState, rSource]
  have input : t.conveyorInput = ({ t with chL := s.chL, chR := s.chR } : State).conveyorInput := rfl
  obtain ⟨permit, reasons⟩ :=
    permitOf_congr (s := s) (t := { t with chL := s.chL, chR := s.chR }) he hs rfl rfl ht hd hc hp hm
  have moved : t.permitOf = ({ t with chL := s.chL, chR := s.chR } : State).permitOf := by
    simp only [State.permitOf, asks, input]
  rw [← permit, ← reasons]
  refine ⟨moved, ?_⟩
  simp only [State.reasonsOf, moved, asks, input]

/-- The permit that step 2 forms for a changed channel (R175). -/
theorem applySource_permit {x : Side} {valid : Bool} {s : State} (moved : (s.ch x).judged valid ≠ s.ch x) :
    (applySource x valid s).permitFormed := by
  have formed := formPermit_formed (changeChannel x ((s.ch x).judged valid) s)
  rw [applySource_eq, if_neg moved]
  obtain ⟨permit, reasons⟩ := permitOf_congr_ch
    (s := formPermit (changeChannel x ((s.ch x).judged valid) s))
    (t := setFlagIf ((s.ch x).lost valid) (srcLossFlagOf x) (formPermit (changeChannel x ((s.ch x).judged valid) s)))
    (by simp) (by simp) (fun y => by simp) (by simp) (by simp) (by simp) (by simp) (by simp)
  rw [State.permitFormed, permit, reasons, setFlagIf_tqs]
  exact formed

/-! ### The channel after a cycle in AUTO or HELD (R56, R60 to R72) -/

/-- The validity of the source for the control in use (R60). -/
def State.cycleValid (s : State) (x : Side) : Bool := s.controlValid x (s.cycleControl x)

theorem sourced_ch (x : Side) (s : State) : (sourced x s).ch x = { (s.ch x).judged (s.cycleValid x) with
    returning := s.cycleReturning x, lastLifted := s.lifted, sourceValid := s.cycleValid x } := by
  rw [sourced, applySource_ch, setCh_ch, Channel.judged_with]
  rfl

/-- The channel after steps 2 to 5 (R49, R60 to R68). -/
def State.steeredChannel (s : State) (x : Side) (drum : Int) : Channel :=
  { (s.ch x).judged (s.cycleValid x) with
    lastLifted := s.lifted
    sourceValid := s.cycleValid x
    goal := (s.cycleGoal x drum).goal
    heldGoal := (s.cycleGoal x drum).held
    dCmd := s.cycleCmd x drum
    returning := s.cycleReturning x && (s.cycleGoal x drum).goal ≠
      some (rampStep s.env (s.cycleGoal x drum).goal (s.ch x).dCmd) }

theorem steered_channel (x : Side) (drum : Int) (s : State) : (steered x drum s).ch x = s.steeredChannel x drum := by
  have env : (sourced x s).env = s.env := by simp [State.env]
  have cmd : ((sourced x s).ch x).dCmd = (s.ch x).dCmd := (sourced_course x s).dCmd
  rw [steered_ch, ramped, goalAndRamp_ch, sourced_goalStep, env, cmd, sourced_ch]
  rfl

/-- The error that drives the valve: of d_cmd against the measured depth, or of the slope (R67, R69). -/
def State.cycleErr (s : State) (x : Side) (drum : Int) : Option Int :=
  match s.cycleControl x with
  | .depth => some (s.cycleCmd x drum - (s.ch x).dMeas)
  | .slope => s.slopeError x

@[simp] theorem steered_frame (x : Side) (drum : Int) (s : State) :
    (steered x drum s).mpr = s.mpr ∧ (steered x drum s).mlc = s.mlc ∧
    (steered x drum s).tqs = (sourced x s).tqs ∧ (steered x drum s).cst = (ramped x drum s).cst := by
  unfold steered
  split <;> simp [ramped]

/-- What step 2 leaves of the channel for the later steps. -/
theorem judged_dMeas (valid : Bool) (c : Channel) : (c.judged valid).dMeas = c.dMeas := by rw [Channel.judged_eq]
theorem judged_slope (valid : Bool) (c : Channel) : (c.judged valid).slope = c.slope := by rw [Channel.judged_eq]
theorem judged_slopeSet (valid : Bool) (c : Channel) : (c.judged valid).slopeSet = c.slopeSet := by rw [Channel.judged_eq]
theorem judged_grade (valid : Bool) (c : Channel) : (c.judged valid).grade = c.grade := by rw [Channel.judged_eq]

theorem slopeError_congr {s t : State} {x : Side} (hv : (t.ch x).slope = (s.ch x).slope)
    (hs : (t.ch x).slopeSet = (s.ch x).slopeSet) (hm : t.mpr = s.mpr) : t.slopeError x = s.slopeError x := by
  simp only [State.slopeError, State.geo, hv, hs, hm]

theorem steered_cycleError (x : Side) (drum : Int) (s : State) :
    (steered x drum s).cycleError x (s.cycleControl x) = s.cycleErr x drum := by
  unfold State.cycleErr
  cases s.cycleControl x with
  | depth => simp only [State.cycleError, steered_channel, State.steeredChannel, judged_dMeas]
  | slope =>
    refine slopeError_congr ?_ ?_ (by simp) <;> rw [steered_channel]
    · exact judged_slope _ _
    · exact judged_slopeSet _ _

/-- The valve command for an error that may be absent, with whether it was clamped (R70, log entry 35). -/
def valveFor (t : ChannelTuning) (vmax : Int) : Option Int → Int × Bool
  | some e => valveOf t vmax e
  | none => (0, false)

theorem driveValve_eq (x : Side) (e : Option Int) (s : State) : driveValve x e s =
    (setFlagIf (valveFor (s.chTun x) s.env.vmax e).2 (satFlagOf x) s).setCh x
      { s.ch x with valve := (valveFor (s.chTun x) s.env.vmax e).1 } := by
  cases e <;> simp only [driveValve, valveFor, setFlagIf_ch]

/-- The valve of the cycle, with whether it was clamped (R70). -/
def State.cycleValve (s : State) (x : Side) (drum : Int) : Int × Bool :=
  valveFor (s.chTun x) s.env.vmax (s.cycleErr x drum)

/-- The state after steps 6 and 7 (R67, R69, R70). -/
def driven (x : Side) (drum : Int) (s : State) : State :=
  if ((steered x drum s).ch x).state = .auto then
    driveValve x ((steered x drum s).cycleError x (s.cycleControl x)) (steered x drum s)
  else steered x drum s

theorem chTun_congr {s t : State} (h : t.mpr = s.mpr) (x : Side) : t.chTun x = s.chTun x := by
  cases x <;> simp only [State.chTun, h]

/-- The channel after steps 2 to 7: the valve is driven in AUTO (R70). -/
def State.drivenChannel (s : State) (x : Side) (drum : Int) : Channel :=
  { s.steeredChannel x drum with
    valve := if (s.steeredChannel x drum).state = .auto then (s.cycleValve x drum).1 else (s.steeredChannel x drum).valve }

theorem driven_eq (x : Side) (drum : Int) (s : State) : driven x drum s =
    (setFlagIf ((s.steeredChannel x drum).state = .auto && (s.cycleValve x drum).2) (satFlagOf x)
      (steered x drum s)).setCh x (s.drivenChannel x drum) := by
  have tun : (steered x drum s).chTun x = s.chTun x := chTun_congr (by simp) x
  have env : (steered x drum s).env = s.env := by simp [State.env]
  unfold driven State.drivenChannel
  rw [steered_cycleError, driveValve_eq, tun, env, steered_channel]
  by_cases auto : (s.steeredChannel x drum).state = .auto
  · rw [if_pos auto, if_pos auto]
    simp only [auto, decide_true, Bool.true_and]
    rfl
  · rw [if_neg auto, if_neg auto]
    simp only [auto, decide_false, Bool.false_and]
    exact (congrArg (State.setCh _ x) (steered_channel x drum s).symm |>.trans (setCh_self x _)).symm

theorem driven_ch (x : Side) (drum : Int) (s : State) : (driven x drum s).ch x = s.drivenChannel x drum := by
  rw [driven_eq, setCh_ch]

theorem activeCycle_eq (x : Side) (drum : Int) (s : State) : activeCycle x drum s =
    keepGrade x (onGradeCycle (s.chTun x).tol s.lifted (s.drivenChannel x drum) (s.cycleErr x drum)) (driven x drum s) := by
  have eq : activeCycle x drum s = keepGrade x (onGradeCycle ((driven x drum s).chTun x).tol s.lifted
      ((driven x drum s).ch x) ((steered x drum s).cycleError x (s.cycleControl x))) (driven x drum s) := rfl
  have tun : (driven x drum s).chTun x = s.chTun x := chTun_congr (by rw [driven_eq]; simp) x
  rw [eq, steered_cycleError, driven_ch, tun]

/-- The cycle counts as on grade (R71). -/
def State.cycleOnGrade (s : State) (x : Side) (drum : Int) : Bool :=
  onGradeCycle (s.chTun x).tol s.lifted (s.drivenChannel x drum) (s.cycleErr x drum)

/-- The channel after a cycle in AUTO or HELD: each field by the step that forms it. -/
theorem activeCycle_ch (x : Side) (drum : Int) (s : State) : (activeCycle x drum s).ch x = { s.drivenChannel x drum with
    grade := if s.cycleOnGrade x drum then min ((s.ch x).grade + 1) 10 else 0 } := by
  have grade : (s.drivenChannel x drum).grade = (s.ch x).grade := judged_grade _ _
  rw [activeCycle_eq, keepGrade, changeChannel_ch, driven_ch, grade]
  rfl

/-! ### The other channel, the permit, the flags and the reports of the cycle -/

theorem steered_other (x : Side) (drum : Int) (s : State) : (steered x drum s).ch x.other = s.ch x.other := by
  have ramped_other : (ramped x drum s).ch x.other = s.ch x.other := by
    simp only [ramped, goalAndRamp, sourced, setCh_ch_other, setFlagIf_ch, applySource_other]
  unfold steered trackSlope
  dsimp only
  (repeat' split)
  · rw [setCh_ch_other, ramped_other]
  · exact ramped_other
  · exact ramped_other

theorem activeCycle_other (x : Side) (drum : Int) (s : State) : (activeCycle x drum s).ch x.other = s.ch x.other := by
  rw [activeCycle_eq, keepGrade, changeChannel_other, driven_eq, setCh_ch_other, setFlagIf_ch, steered_other]

theorem activeCycle_sourced_tqs (x : Side) (drum : Int) (s : State) : (activeCycle x drum s).tqs = (sourced x s).tqs := by
  rw [activeCycle_eq, driven_eq]
  simp

/-- Of TQS the cycle moves the permit and its reasons at most (R175). -/
theorem activeCycle_tqs (x : Side) (drum : Int) (s : State) : (activeCycle x drum s).tqs =
    { s.tqs with permit := (activeCycle x drum s).tqs.permit, reasons := (activeCycle x drum s).tqs.reasons } := by
  rw [activeCycle_sourced_tqs]
  exact (applySource_tqs x _ _).trans (by simp [sourced])

theorem sourced_other (x : Side) (s : State) : (sourced x s).ch x.other = s.ch x.other := by
  rw [sourced, applySource_other, setCh_ch_other]

/-- After step 2 the state and the causes stay for the cycle. -/
theorem activeCycle_asks (x : Side) (drum : Int) (s : State) (y : Side) :
    ((activeCycle x drum s).ch y).state = ((sourced x s).ch y).state ∧
    ((activeCycle x drum s).ch y).holdSource = ((sourced x s).ch y).holdSource := by
  by_cases e : y = x
  · subst e
    rw [activeCycle_ch, sourced_ch]
    exact ⟨rfl, rfl⟩
  · obtain rfl : y = x.other := by cases x <;> cases y <;> simp_all [Side.other]
    rw [activeCycle_other, sourced_other]
    exact ⟨rfl, rfl⟩

/-- A cycle that changes the channel's state or its cause SOURCE forms the permit again (R175). -/
theorem activeCycle_permit {x : Side} {s : State} (drum : Int)
    (moved : ((s.ch x).judged (s.cycleValid x)).state ≠ (s.ch x).state ∨
      ((s.ch x).judged (s.cycleValid x)).holdSource ≠ (s.ch x).holdSource) : (activeCycle x drum s).tqs =
    { s.tqs with permit := (activeCycle x drum s).permitOf, reasons := (activeCycle x drum s).reasonsOf } := by
  obtain ⟨permit, reasons⟩ : (sourced x s).permitFormed := by
    refine applySource_permit fun same => ?_
    rw [setCh_ch, Channel.judged_with] at same
    exact moved.elim (fun h => h (congrArg Channel.state same :)) (fun h => h (congrArg Channel.holdSource same :))
  obtain ⟨permit_same, reasons_same⟩ := permitOf_congr_ch (s := sourced x s) (t := activeCycle x drum s) (by simp [sourced])
    (by simp [sourced]) (activeCycle_asks x drum s) (by simp) (by simp)
    (by rw [activeCycle_sourced_tqs]) (by simp [sourced]) (by simp)
  rw [activeCycle_tqs, permit_same, reasons_same, ← permit, ← reasons, activeCycle_sourced_tqs]

theorem setCh_cst (s : State) (x : Side) (c : Channel) : (s.setCh x c).cst = s.cst := by simp

theorem ramped_flags (x : Side) (drum : Int) (s : State) : (ramped x drum s).cst.flags =
    s.cst.flags ||| (if (s.ch x).lost (s.cycleValid x) then (srcLossFlagOf x).bit else 0) |||
      (if (s.cycleGoal x drum).clamped s.lifted then (clampFlagOf x).bit else 0) := by
  have flags : (sourced x s).cst.flags =
      s.cst.flags ||| (if (s.ch x).lost (s.cycleValid x) then (srcLossFlagOf x).bit else 0) := by
    rw [sourced, applySource_flags, setCh_ch]
    simp [State.cycleValid, Channel.lost]
  rw [ramped, goalAndRamp, setCh_cst, setFlagIf_flags, sourced_goalStep, flags]

/-- The flags that a cycle sets (R49, R64, R70). -/
theorem activeCycle_flags (x : Side) (drum : Int) (s : State) : (activeCycle x drum s).cst.flags =
    s.cst.flags ||| (if (s.ch x).lost (s.cycleValid x) then (srcLossFlagOf x).bit else 0) |||
      (if (s.cycleGoal x drum).clamped s.lifted then (clampFlagOf x).bit else 0) |||
      (if (s.steeredChannel x drum).state = .auto && (s.cycleValve x drum).2 then (satFlagOf x).bit else 0) := by
  have cst : (activeCycle x drum s).cst = (driven x drum s).cst := by
    rw [activeCycle_eq]
    simp
  rw [cst, driven_eq, setCh_cst, setFlagIf_flags, ← ramped_flags]
  simp

/-- A cycle with its source that clamps neither the goal nor the valve leaves CST (R49, R64, R70). -/
theorem activeCycle_cst_kept {x : Side} {drum : Int} {s : State} (found : (s.ch x).lost (s.cycleValid x) = false)
    (goal : (s.cycleGoal x drum).clamped s.lifted = false)
    (valve : (s.steeredChannel x drum).state ≠ .auto ∨ (s.cycleValve x drum).2 = false) :
    (activeCycle x drum s).cst = s.cst := by
  have sat : ((s.steeredChannel x drum).state = .auto && (s.cycleValve x drum).2) = false := by
    rcases valve with h | h <;> simp [h]
  have sourced_cst : (sourced x s).cst = s.cst := by
    rw [sourced, applySource_eq, setCh_ch]
    have kept : ({ s.ch x with
        returning := s.cycleReturning x, lastLifted := s.lifted, sourceValid := s.controlValid x (s.cycleControl x) } :
        Channel).lost (s.controlValid x (s.cycleControl x)) = false := found
    rw [kept]
    simp only [setFlagIf, Bool.false_eq_true, if_false]
    split <;> simp
  have ramped_cst : (ramped x drum s).cst = s.cst := by
    rw [ramped, goalAndRamp, sourced_goalStep, goal]
    simpa [setFlagIf] using sourced_cst
  rw [activeCycle_eq, driven_eq, sat]
  simpa [setFlagIf] using ramped_cst

/-- Step 8 queues GRADE at most (R72). -/
theorem reportsMade_keepGrade {m : BitVec 9} (hg : ReportKind.grade.bit &&& m = ReportKind.grade.bit) (x : Side) (b : Bool)
    (s : State) : reportsMade m s (keepGrade x b s) := by
  refine reportsMade_changeChannel_of (fun moved => ?_) (fun _ => hg)
  obtain h | h | h := (stateDiffers_iff _ _).1 moved <;> exact absurd rfl h

theorem reportsMade_steered {m : BitVec 9} (hf : ReportKind.fault.bit &&& m = ReportKind.fault.bit) (x : Side) (drum : Int)
    (s : State) : reportsMade m (sourced x s) (steered x drum s) := by
  have ramp : reportsMade m (sourced x s) (ramped x drum s) := by
    refine (reportsMade_setFlagIf _ (clampFlagOf x) hf _).trans (reportsMade_setCh m ?_ ?_ ?_ ?_) <;> rw [setFlagIf_ch]
  unfold steered trackSlope
  dsimp only
  (repeat' split)
  · exact ramp.trans (reportsMade_setCh m rfl rfl rfl rfl)
  · exact ramp
  · exact ramp

/-- The reports of a cycle are those of step 2, with FAULT and GRADE (R52, R72, R139, R175). -/
theorem reportsMade_activeCycle {m : BitVec 9} (hf : ReportKind.fault.bit &&& m = ReportKind.fault.bit)
    (hg : ReportKind.grade.bit &&& m = ReportKind.grade.bit) {x : Side} {s : State} (h : reportsMade m s (sourced x s))
    (drum : Int) : reportsMade m s (activeCycle x drum s) := by
  rw [activeCycle_eq, driven_eq]
  refine h.trans ((reportsMade_steered hf x drum s).trans (((reportsMade_setFlagIf _ (satFlagOf x) hf _).trans
    (reportsMade_setCh m ?_ ?_ ?_ ?_)).trans (reportsMade_keepGrade hg x _ _))) <;>
    rw [setFlagIf_ch, steered_channel] <;> rfl

/-- Step 2 with every kind of report that it may call for. -/
theorem reportsMade_sourced {m : BitVec 9} (hs : ReportKind.state.bit &&& m = ReportKind.state.bit)
    (hp : ReportKind.permit.bit &&& m = ReportKind.permit.bit) (hf : ReportKind.fault.bit &&& m = ReportKind.fault.bit)
    (x : Side) (s : State) : reportsMade m s (sourced x s) := by
  unfold sourced
  refine reportsMade.trans (reportsMade_setCh m ?_ ?_ ?_ ?_) (reportsMade_applySource hs hp hf x _ _) <;> rfl

/-- A channel in AUTO with its source is left as it is by step 2. -/
theorem judged_auto {c : Channel} (h : c.state = .auto) : c.judged true = c ∧ c.lost true = false := by
  simp [Channel.judged, Channel.lost, h]

theorem sourced_auto {x : Side} {s : State} (auto : (s.ch x).state = .auto) (valid : s.cycleValid x = true) :
    sourced x s = s.setCh x { s.ch x with
      returning := s.cycleReturning x, lastLifted := s.lifted, sourceValid := true } := by
  have fits := judged_auto (c := { s.ch x with
    returning := s.cycleReturning x, lastLifted := s.lifted, sourceValid := true }) auto
  rw [State.cycleValid] at valid
  rw [sourced, valid]
  apply applySource_kept <;> rw [setCh_ch]
  · exact fits.1
  · exact fits.2

/-- A cycle of a channel in AUTO with its source calls for FAULT and GRADE at most (R72, R139). -/
theorem reportsMade_activeCycle_auto {m : BitVec 9} (hf : ReportKind.fault.bit &&& m = ReportKind.fault.bit)
    (hg : ReportKind.grade.bit &&& m = ReportKind.grade.bit) {x : Side} {s : State} (auto : (s.ch x).state = .auto)
    (valid : s.cycleValid x = true) (drum : Int) : reportsMade m s (activeCycle x drum s) := by
  refine reportsMade_activeCycle hf hg ?_ drum
  rw [sourced_auto auto valid]
  exact reportsMade_setCh m rfl rfl rfl rfl

end Sys2Proof.Machine
end

section
/-! What a loop cycle measures (R56 to R59, R79, R80): the markers evaluated, the sensors sampled, the sources fused, and what
stays. -/

namespace Sys2Proof.Machine

/-! ### The evaluation of the markers (R79, R80, R92) -/

/-- A marker passed out is an event recorded and a MARKER report, and nothing else of MLC moves (R80, R92). -/
theorem recordPassedOut_mlc (ks : List Marker) (s : State) : (ks.foldl recordPassedOut s).mlc = { s.mlc with
    eventCount := (ks.foldl recordPassedOut s).mlc.eventCount, lastEvent := (ks.foldl recordPassedOut s).mlc.lastEvent } := by
  induction ks generalizing s with
  | nil => rfl
  | cons k ks ih =>
    rw [List.foldl_cons, ih]
    simp [recordPassedOut, recordEvent]

theorem wrapInc_eq {n : Nat} (h : n ≤ 65535) : wrapInc n = (n + 1) % 65536 := by
  unfold wrapInc Config.count16Max
  split <;> omega

theorem recordPassedOut_count (ks : List Marker) {s : State} (h : s.mlc.eventCount ≤ 65535) :
    (ks.foldl recordPassedOut s).mlc.eventCount = (s.mlc.eventCount + ks.length) % 65536 := by
  induction ks generalizing s with
  | nil => simp; omega
  | cons k ks ih =>
    have count : (recordPassedOut s k).mlc.eventCount = (s.mlc.eventCount + 1) % 65536 := by
      rw [← wrapInc_eq h]
      simp [recordPassedOut, recordEvent]
    rw [List.foldl_cons, ih (by omega), count, List.length_cons]
    omega

theorem reportsMade_marker {m : BitVec 9} (hm : ReportKind.marker.bit &&& m = ReportKind.marker.bit) (s : State) :
    reportsMade m s (queueReport .marker s) :=
  reportsMade_of_same (reportsAdded_queueReport .marker hm s) (fun x => by cases x <;> simp) (by simp) (by simp) (by simp)
    (by simp) (by simp)

theorem reportsMade_recordPassedOut {m : BitVec 9} (hm : ReportKind.marker.bit &&& m = ReportKind.marker.bit)
    (ks : List Marker) (s : State) : reportsMade m s (ks.foldl recordPassedOut s) := by
  induction ks generalizing s with
  | nil => exact reportsMade_of_kept rfl rfl rfl rfl rfl rfl rfl rfl
  | cons k ks ih =>
    exact ((reportsMade_of_kept rfl rfl rfl rfl rfl rfl rfl rfl).trans
      (reportsMade_marker hm (recordEvent .passedOut k s))).trans (ih (recordPassedOut s k))

/-- The markers that have been passed out at a drum chainage (R80). -/
def State.passedMarkers (s : State) (drum : Int) : List Marker :=
  s.mlc.markers.filter (fun k => decide (k.m + k.trail + s.tun.bBehind ≤ drum))

/-- The markers that stay, their states formed (R79, R80). -/
def State.keptMarkers (s : State) (drum : Int) : List Marker :=
  (s.mlc.markers.map (Marker.formed drum)).filter (fun k => decide (drum < k.m + k.trail + s.tun.bBehind))

/-- The state when the markers passed out have been recorded, before WINDOW is formed (R80). -/
def passedRecorded (drum : Int) (s : State) : State :=
  ((s.passedMarkers drum).map (Marker.formed drum)).foldl recordPassedOut
    { s with mlc := { s.mlc with markers := s.keptMarkers drum } }

theorem evaluateMarkers_eq (drum : Int) (s : State) : evaluateMarkers drum s = reformWindow (passedRecorded drum s) := by
  have gone : (s.mlc.markers.map (Marker.formed drum)).filter (Marker.passedOut s.tun.bBehind drum) =
      (s.passedMarkers drum).map (Marker.formed drum) := by
    rw [State.passedMarkers, List.filter_map]
    rfl
  have kept : (s.mlc.markers.map (Marker.formed drum)).filter (fun k => !Marker.passedOut s.tun.bBehind drum k) =
      s.keptMarkers drum := by
    refine List.filter_congr fun k _ => ?_
    rw [Marker.passedOut, ← decide_not, decide_eq_decide]
    exact not_le
  unfold evaluateMarkers passedRecorded
  dsimp only
  rw [gone, kept]

theorem passedRecorded_mlc (drum : Int) (s : State) : (passedRecorded drum s).mlc = { s.mlc with
    markers := s.keptMarkers drum, eventCount := (passedRecorded drum s).mlc.eventCount
    lastEvent := (passedRecorded drum s).mlc.lastEvent } := recordPassedOut_mlc _ _

/-- With no marker in the list and no cause in the set the evaluation changes nothing. -/
theorem evaluateMarkers_nil {s : State} (drum : Int) (h : s.mlc.markers = []) (hc : s.mlc.causes = ⟨false, false, false⟩) :
    evaluateMarkers drum s = s := by
  have recorded : passedRecorded drum s = s := by
    simp only [passedRecorded, State.passedMarkers, State.keptMarkers, h, List.filter_nil, List.map_nil, List.foldl_nil]
    rw [← h]
  have window : ({ s.mlc.causes with window := s.windowCause } : LiftCauses) = s.mlc.causes := by
    simp [State.windowCause, h, hc]
  rw [evaluateMarkers_eq, recorded, reformWindow, window, setCauses_same]

/-- What the evaluation leaves of MLC (R79, R80, R85). -/
theorem evaluateMarkers_mlc (drum : Int) (s : State) : (evaluateMarkers drum s).mlc = { s.mlc with
    markers := s.keptMarkers drum
    eventCount := (passedRecorded drum s).mlc.eventCount
    lastEvent := (passedRecorded drum s).mlc.lastEvent
    causes := { s.mlc.causes with window := !s.eStop && (s.keptMarkers drum).any (fun k => k.state = .active) }
    returnDepth := (evaluateMarkers drum s).mlc.returnDepth } := by
  have window : (passedRecorded drum s).windowCause =
      (!s.eStop && (s.keptMarkers drum).any (fun k => k.state = .active)) := by
    rw [State.windowCause, passedRecorded_mlc]
    simp [passedRecorded]
  rw [evaluateMarkers_eq, ← window]
  refine (setCauses_mlc_eq _ _).trans ?_
  rw [← reformWindow, passedRecorded_mlc]

/-- What the return depth is formed from (R91). -/
theorem returnDepthFormed_congr {s u t : State} (hc : u.mlc.causes = s.mlc.causes) (hd : u.mlc.returnDepth = s.mlc.returnDepth)
    (hl : u.chL = s.chL) (hr : u.chR = s.chR) (h : returnDepthFormed u t) : returnDepthFormed s t := by
  unfold returnDepthFormed at h ⊢
  rwa [hc, hd, hl, hr] at h

/-- The return depth that WINDOW captures (R91). -/
theorem evaluateMarkers_returnDepth (drum : Int) (s : State) : returnDepthFormed s (evaluateMarkers drum s) := by
  rw [evaluateMarkers_eq]
  refine returnDepthFormed_congr ?_ ?_ ?_ ?_ (setCauses_formed _ (passedRecorded drum s))
  · rw [passedRecorded_mlc]
  · rw [passedRecorded_mlc]
  · simp [passedRecorded]
  · simp [passedRecorded]

theorem reportsMade_passedRecorded {m : BitVec 9} (hm : ReportKind.marker.bit &&& m = ReportKind.marker.bit) (drum : Int)
    (s : State) : reportsMade m s (passedRecorded drum s) := by
  have listed : reportsMade m s { s with mlc := { s.mlc with markers := s.keptMarkers drum } } :=
    reportsMade_of_kept rfl rfl rfl rfl rfl rfl rfl rfl
  exact listed.trans (reportsMade_recordPassedOut hm _ _)

theorem reportsMade_evaluateMarkers {m : BitVec 9} (hs : ReportKind.state.bit &&& m = ReportKind.state.bit)
    (hm : ReportKind.marker.bit &&& m = ReportKind.marker.bit) (drum : Int) (s : State) :
    reportsMade m s (evaluateMarkers drum s) := by
  rw [evaluateMarkers_eq]
  exact (reportsMade_passedRecorded hm drum s).trans (reportsMade_setCauses _ hs _)

/-- The last marker passed out is the event recorded, with a MARKER report (R80, R92, log entry 20). -/
theorem passedRecorded_last {drum : Int} {s : State} {front : List Marker} {k : Marker}
    (h : s.passedMarkers drum = front ++ [k]) :
    (passedRecorded drum s).mlc.lastEvent = ⟨.passedOut, k.id, k.m, k.lead, k.trail, k.origin⟩ ∧
    (s.clp.enabled.getLsbD 5 = true → (passedRecorded drum s).clp.waiting.getLsbD 5 = true) := by
  unfold passedRecorded
  rw [h, List.map_append, List.foldl_append]
  refine ⟨?_, fun enabled => ?_⟩
  · simp [recordPassedOut, recordEvent, Marker.formed]
  · have kept (u : State) (q : Marker) : (recordEvent .passedOut q u).clp.enabled = u.clp.enabled := rfl
    refine queueReport_pending .marker _ ?_
    rw [kept, (show (List.foldl recordPassedOut _ _).clp.enabled = s.clp.enabled by simp)]
    exact enabled

theorem passedRecorded_none {drum : Int} {s : State} (h : s.passedMarkers drum = []) :
    (passedRecorded drum s).mlc.eventCount = s.mlc.eventCount ∧ (passedRecorded drum s).mlc.lastEvent = s.mlc.lastEvent := by
  simp only [passedRecorded, h, List.map_nil, List.foldl_nil, and_self]

theorem passedRecorded_count {drum : Int} {s : State} (h : s.mlc.eventCount ≤ 65535) :
    (passedRecorded drum s).mlc.eventCount = (s.mlc.eventCount + (s.passedMarkers drum).length) % 65536 := by
  have count := recordPassedOut_count ((s.passedMarkers drum).map (Marker.formed drum))
    (s := { s with mlc := { s.mlc with markers := s.keptMarkers drum } }) h
  rwa [List.length_map] at count

/-! ### The samples and the fused depth (R57 to R59) -/

/-- The state whose sensors are sampled: on the left the markers have been evaluated (R79). -/
def evaluated (x : Side) (s : State) : State := if x = .L then evaluateMarkers s.drum s else s

theorem evaluated_frame (x : Side) (s : State) : (evaluated x s).now = s.now ∧ (evaluated x s).eStop = s.eStop ∧
    (evaluated x s).trc = s.trc ∧ (evaluated x s).plt = s.plt ∧ (evaluated x s).chL = s.chL ∧ (evaluated x s).chR = s.chR ∧
    (evaluated x s).target = s.target ∧ (evaluated x s).slopeRaw = s.slopeRaw ∧ (evaluated x s).spr = s.spr ∧
    (evaluated x s).chd = s.chd ∧ (evaluated x s).cst = s.cst ∧ (evaluated x s).load = s.load ∧
    (evaluated x s).tqs = s.tqs ∧ (evaluated x s).mpr = s.mpr ∧ (evaluated x s).freeUsed = s.freeUsed ∧
    (evaluated x s).pending = s.pending := by
  cases x <;> simp [evaluated]

theorem measured_eq (x : Side) (plate leg slope : Nat) (s : State) :
    measured x plate leg slope s = fuseSources x (sampleSensors x plate leg slope (evaluated x s)) := rfl

/-- Beyond the markers the measures touch the sampled channel and the slope sensor's raw count alone. -/
theorem measured_rest (x : Side) (plate leg slope : Nat) (s : State) : measured x plate leg slope s = { s with
    slopeRaw := slope, chL := (measured x plate leg slope s).chL, chR := (measured x plate leg slope s).chR
    mlc := (evaluated x s).mlc, clp := (evaluated x s).clp } := by
  rw [measured_eq]
  apply State.eq_of_fields <;> simp [evaluated_frame, sampleSensors]

theorem measured_other (x : Side) (plate leg slope : Nat) (s : State) :
    (measured x plate leg slope s).ch x.other = s.ch x.other := by
  cases x <;> simp [measured_eq, fuseSources, sampleSensors, Side.other, evaluated_frame]

/-- A scaled sample (R57). -/
theorem scaleSensor_eq (k : SensorCal) (lo hi : Int) (raw : Nat) : scaleSensor k lo hi raw =
    if 614 ≤ raw ∧ raw ≤ 3532 then some (clamp (k.zero + Int.tdiv (((raw : Int) - 683) * k.span) 2730) lo hi)
    else none := by
  simp only [scaleSensor, rawValid, Bool.and_eq_true, decide_eq_true_eq, rawScaled, truncDiv]

theorem sampleSensors_ch (x : Side) (plate leg slope : Nat) (s : State) :
    (sampleSensors x plate leg slope s).ch x = { s.ch x with
    plate := scaleSensor (s.plateCal x) (-3000) 5000 plate, leg := scaleSensor (s.legCal x) 0 65535 leg
    slope := scaleSensor s.cal.slope (-1000) 1000 slope, rawPlate := plate, rawLeg := leg } := by
  cases x <;> rfl

/-- The three samples of a cycle (R57). -/
theorem measured_samples (x : Side) (plate leg slope : Nat) (s : State) :
    ((measured x plate leg slope s).ch x).plate = scaleSensor (s.plateCal x) (-3000) 5000 plate ∧
    ((measured x plate leg slope s).ch x).leg = scaleSensor (s.legCal x) 0 65535 leg ∧
    ((measured x plate leg slope s).ch x).slope = scaleSensor s.cal.slope (-1000) 1000 slope := by
  have cal : (evaluated x s).mpr = s.mpr := by simp [evaluated_frame]
  have plateCal : (evaluated x s).plateCal x = s.plateCal x := by simp only [State.plateCal, State.cal, cal]
  have legCal : (evaluated x s).legCal x = s.legCal x := by simp only [State.legCal, State.cal, cal]
  have slopeCal : (evaluated x s).cal = s.cal := by simp only [State.cal, cal]
  rw [← plateCal, ← legCal, ← slopeCal, measured_eq, fuseSources, setCh_ch, sampleSensors_ch]
  exact ⟨rfl, rfl, rfl⟩

/-- The depth a cycle measures: the weighted mean of the valid sources, kept when there is none (R59). -/
theorem measured_dMeas (x : Side) (plate leg slope : Nat) (s : State) :
    ((measured x plate leg slope s).ch x).dMeas = if (measured x plate leg slope s).weighted x = [] then (s.ch x).dMeas else
      Int.tdiv (((measured x plate leg slope s).weighted x).map (fun w => w.1 * w.2)).sum
        (((measured x plate leg slope s).weighted x).map (fun w => w.1)).sum := by
  have sources : (measured x plate leg slope s).weighted x =
      (sampleSensors x plate leg slope (evaluated x s)).weighted x := by
    rw [measured_eq]
    apply weighted_congr <;> simp [fuseSources]
  have kept : ((sampleSensors x plate leg slope (evaluated x s)).ch x).dMeas = (s.ch x).dMeas := by
    cases x <;> simp [sampleSensors, evaluated_frame]
  rw [sources, measured_eq, fuseSources, setCh_ch, State.fused, ← kept]
  dsimp only
  cases (sampleSensors x plate leg slope (evaluated x s)).weighted x <;> rfl

/-! ### The cycle after its measures -/

/-- What no step of a cycle after its measures moves: the operator values and the measures. -/
structure SameMeasures (c d : Channel) : Prop where
  mode : d.mode = c.mode
  depthSet : d.depthSet = c.depthSet
  slopeSet : d.slopeSet = c.slopeSet
  trim : d.trim = c.trim
  plate : d.plate = c.plate
  leg : d.leg = c.leg
  slope : d.slope = c.slope
  rawPlate : d.rawPlate = c.rawPlate
  rawLeg : d.rawLeg = c.rawLeg
  dMeas : d.dMeas = c.dMeas

theorem activeCycle_measures (x : Side) (drum : Int) (s : State) : SameMeasures (s.ch x) ((activeCycle x drum s).ch x) := by
  rw [activeCycle_ch, State.drivenChannel, State.steeredChannel, Channel.judged_eq]
  constructor <;> rfl

/-- A cycle in OFF or JOG forms the validity shown and clears the on-grade counter (R56). -/
theorem restingCycle_ch (x : Side) (s : State) : (restingCycle x s).ch x = { s.ch x with
    sourceValid := s.controlValid x (s.controlIfEngaged x), grade := 0 } := by
  simp [restingCycle, keepGrade]

theorem restingCycle_other (x : Side) (s : State) : (restingCycle x s).ch x.other = s.ch x.other := by
  rw [restingCycle, keepGrade, changeChannel_other, setCh_ch_other]

theorem reportsMade_restingCycle {m : BitVec 9} (hg : ReportKind.grade.bit &&& m = ReportKind.grade.bit) (x : Side)
    (s : State) : reportsMade m s (restingCycle x s) := by
  unfold restingCycle
  refine reportsMade.trans (reportsMade_setCh m ?_ ?_ ?_ ?_) (reportsMade_keepGrade hg x false _) <;> rfl

/-- A cycle of a channel in OFF or JOG (R56). -/
theorem loopCycle_resting {x : Side} {s : State} (h : (s.ch x).state = .off ∨ (s.ch x).state = .jog)
    (plate leg slope : Nat) : loopCycle x plate leg slope s = restingCycle x (measured x plate leg slope s) := by
  have state : ((measured x plate leg slope s).ch x).state = (s.ch x).state := by rw [measured_ch]
  unfold loopCycle
  dsimp only
  rw [← measured, state]
  obtain h | h := h <;> rw [h]

theorem resting_or_active (c : Channel) : (c.state = .off ∨ c.state = .jog) ∨ (c.state = .auto ∨ c.state = .held) := by
  cases c.state <;> simp

/-- What a cycle after its measures keeps, and its reports, in every state of the channel. -/
structure CycleKeeps (x : Side) (m t : State) : Prop where
  measures : SameMeasures (m.ch x) (t.ch x)
  other : t.ch x.other = m.ch x.other
  mlc : t.mlc = m.mlc
  tqs : t.tqs = { m.tqs with permit := t.tqs.permit, reasons := t.tqs.reasons }
  reports : reportsMade 0b000110111 m t
  rest : t = { m with chL := t.chL, chR := t.chR, cst := t.cst, tqs := t.tqs, clp := t.clp }

theorem restingCycle_keeps (x : Side) (m : State) : CycleKeeps x m (restingCycle x m) where
  measures := by
    rw [restingCycle_ch]
    constructor <;> rfl
  other := restingCycle_other x m
  mlc := by simp
  tqs := by simp
  reports := reportsMade_restingCycle (by decide) x m
  rest := by apply State.eq_of_fields <;> simp

theorem activeCycle_keeps (x : Side) (drum : Int) (m : State) : CycleKeeps x m (activeCycle x drum m) where
  measures := activeCycle_measures x drum m
  other := activeCycle_other x drum m
  mlc := by simp
  tqs := activeCycle_tqs x drum m
  reports := reportsMade_activeCycle (by decide) (by decide)
    (reportsMade_sourced (by decide) (by decide) (by decide) x m) drum
  rest := by apply State.eq_of_fields <;> simp

theorem loopCycle_keeps (x : Side) (plate leg slope : Nat) (s : State) :
    CycleKeeps x (measured x plate leg slope s) (loopCycle x plate leg slope s) := by
  obtain resting | active := resting_or_active (s.ch x)
  · rw [loopCycle_resting resting]
    exact restingCycle_keeps x _
  · rw [loopCycle_active active]
    exact activeCycle_keeps x _ _

/-- A channel that step 2 holds has no valve command: it was held already, or it was in AUTO (R49). -/
theorem judged_held_valve {valid : Bool} {c : Channel} (held : (c.judged valid).state = .held)
    (start : c.valve = 0 ∨ c.state = .auto) : (c.judged valid).valve = 0 := by
  unfold Channel.judged at held ⊢
  rcases c with ⟨state, source, link⟩
  cases state <;> cases valid <;> cases source <;> simp_all

/-- A channel that a cycle leaves in HELD has no valve command (R44). -/
theorem loopCycle_held_valve {x : Side} {plate leg slope : Nat} {s : State}
    (held : ((loopCycle x plate leg slope s).ch x).state = .held) (start : (s.ch x).valve = 0 ∨ (s.ch x).state = .auto) :
    ((loopCycle x plate leg slope s).ch x).valve = 0 := by
  obtain resting | active := resting_or_active (s.ch x)
  · rw [loopCycle_resting resting, restingCycle_ch, measured_ch] at held
    rcases resting with off | jog <;> simp_all
  · rw [loopCycle_active active, activeCycle_ch] at held ⊢
    have steered : ((measured x plate leg slope s).steeredChannel x s.drum).state = .held := held
    have valve : ((measured x plate leg slope s).drivenChannel x s.drum).valve =
        ((measured x plate leg slope s).steeredChannel x s.drum).valve := if_neg (by rw [steered]; decide)
    refine valve.trans (judged_held_valve steered ?_)
    rw [measured_ch]
    exact start

/-- Sampling and fusing call for no report. -/
theorem reportsMade_samples (m : BitVec 9) (x : Side) (plate leg slope : Nat) (s : State) :
    reportsMade m s (fuseSources x (sampleSensors x plate leg slope s)) := by
  refine reportsMade_of_same (reportsAdded_of_eq m (by simp)) (fun y => ?_) (by simp) (by simp) (by simp) (by simp) (by simp)
  cases x <;> cases y <;> exact ⟨rfl, rfl, rfl, rfl⟩

/-- The reports of the measures: those of the markers (R80, R90). -/
theorem reportsMade_measured (x : Side) (plate leg slope : Nat) (s : State) :
    reportsMade 0b000110111 s (measured x plate leg slope s) := by
  have markers : reportsMade 0b000110111 s (evaluated x s) := by
    unfold evaluated
    split
    · exact reportsMade_evaluateMarkers (by decide) (by decide) s.drum s
    · exact reportsMade_of_kept rfl rfl rfl rfl rfl rfl rfl rfl
  exact markers.trans (reportsMade_samples _ x plate leg slope _)

/-- A pending report stays pending. -/
theorem reportsMade.waiting_kept {m : BitVec 9} {s t : State} (h : reportsMade m s t) {i : Nat}
    (pending : s.clp.waiting.getLsbD i = true) : t.clp.waiting.getLsbD i = true := by
  obtain ⟨⟨-, kept, -⟩, -⟩ := h
  exact waiting_mono kept i pending

/-- Settles O21: what the measures give stays through the rest of the cycle, and the markers are those of their evaluation. -/
theorem loopCycleMeasures : Obligations.LoopCycleMeasures := by
  intro s x plate leg slope
  obtain ⟨same, other, mlc, tqs, reports, rest⟩ := loopCycle_keeps x plate leg slope s
  have before := measured_rest x plate leg slope s
  have start := measured_ch x plate leg slope s
  have dMeas := measured_dMeas x plate leg slope s
  obtain ⟨plateValue, legValue, slopeValue⟩ := measured_samples x plate leg slope s
  have sources : (loopCycle x plate leg slope s).weighted x = (measured x plate leg slope s).weighted x :=
    weighted_congr same.plate same.leg (by rw [before]; simp) (by rw [before]; simp) (by rw [before]; simp)
  have markers : (measured x plate leg slope s).mlc = (evaluated x s).mlc := by rw [before]
  have raw : (loopCycle x plate leg slope s).slopeRaw = slope := by rw [rest, before]
  refine ⟨loopCycle x plate leg slope s, rfl, ?_, ?_, ?_, ?_, ?_, ?_, fun none => ?_, fun some => ?_, fun resting => ?_,
    loopCycle_held_valve, ?_, ?_, ?_, ?_, ?_, ?_, ?_, ?_, ?_, ?_, ?_⟩
  · rw [same.plate, plateValue, scaleSensor_eq]
  · rw [same.leg, legValue, scaleSensor_eq]
  · rw [same.slope, slopeValue, scaleSensor_eq]
  · rw [same.rawPlate, start]
  · rw [same.rawLeg, start]
  · exact raw
  · rw [sources] at none
    rw [same.dMeas, dMeas, if_pos none]
  · rw [sources] at some ⊢
    rw [same.dMeas, dMeas, if_neg some]
  · have cst : (restingCycle x (measured x plate leg slope s)).cst = s.cst := by
      rw [before]
      simp
    rw [loopCycle_resting resting, restingCycle_ch, start]
    exact ⟨rfl, rfl, rfl, rfl, rfl, rfl, cst⟩
  · rw [same.depthSet, start]
  · rw [same.slopeSet, start]
  · rw [same.trim, start]
  · rw [same.mode, start]
  · rw [other, measured_other]
  · rintro rfl
    rw [mlc, markers]
    rfl
  · rintro rfl
    have formed := evaluateMarkers_mlc s.drum s
    have depth := evaluateMarkers_returnDepth s.drum s
    have left : (loopCycle .L plate leg slope s).mlc = (evaluateMarkers s.drum s).mlc := mlc.trans markers
    rw [left, returnDepthFormed, left]
    refine ⟨?_, ?_, ?_, ?_, depth⟩ <;> rw [formed]
    rfl
  · rintro gone rfl rfl
    have formed := evaluateMarkers_mlc s.drum s
    have left : (loopCycle .L plate leg slope s).mlc = (evaluateMarkers s.drum s).mlc := mlc.trans markers
    rw [left, formed]
    refine ⟨passedRecorded_none, passedRecorded_count, fun front k last => ?_⟩
    obtain ⟨event, report⟩ := passedRecorded_last last
    refine ⟨event, fun enabled => reports.waiting_kept ?_⟩
    have window : reportsMade 0b000000001 (passedRecorded s.drum s) (evaluateMarkers s.drum s) := by
      rw [evaluateMarkers_eq]
      exact reportsMade_setCauses _ (by decide) _
    rw [before]
    exact window.waiting_kept (report enabled)
  · rw [tqs, before]
  · exact (reportsMade_measured x plate leg slope s).trans reports
  · apply State.eq_of_fields <;> simp [raw]

end Sys2Proof.Machine
end

section
/-! The control of a cycle (R49, R60, R67, R69 to R72): the valve of an error, a cycle in AUTO with its source, the loss of the
source and its return. -/

namespace Sys2Proof.Machine

/-! ### The valve of an error (R69, R70) -/

/-- The valve command of an error before its floor and its clamp (R69, R70). -/
def rawValve (t : ChannelTuning) (e : Int) : Int :=
  if |e| ≤ t.db then 0 else Int.tdiv (t.kp * (e - signOf e * t.db)) 16

/-- Beyond the deadband the raw command has the sign of the error, or is 0. -/
theorem rawValve_sign {t : ChannelTuning} {e : Int} (kp : 0 < t.kp) : rawValve t e = signOf e * |rawValve t e| := by
  unfold rawValve signOf
  split
  · simp
  next beyond =>
    split
    next neg =>
      rw [abs_of_neg neg] at beyond
      have product : t.kp * (e - -1 * t.db) ≤ 0 := mul_nonpos_of_nonneg_of_nonpos kp.le (by omega)
      have quotient := Int.tdiv_nonneg (neg_nonneg.2 product) (by decide : (0 : Int) ≤ 16)
      rw [Int.neg_tdiv] at quotient
      rw [abs_of_nonpos (by omega)]
      omega
    next pos =>
      rw [abs_of_nonneg (by omega)] at beyond
      rw [abs_of_nonneg (Int.tdiv_nonneg (mul_nonneg kp.le (by omega)) (by omega)), one_mul, one_mul]

theorem signOf_mul_abs (e : Int) {v : Int} (hv : 0 ≤ v) : |signOf e * v| = v := by
  unfold signOf
  split <;> simp [abs_of_nonneg hv]

/-- A raw command of 0 is the valve; another is raised to the floor and clamped to Vmax, with its sign (R70). -/
theorem valveOf_spec {t : ChannelTuning} {vmax : Int} (e : Int) (kp : 0 < t.kp) (hv : 0 ≤ vmax) : valveOf t vmax e =
    if rawValve t e = 0 then (0, false)
    else (signOf e * min vmax (max |rawValve t e| t.vmin), decide (vmax < max |rawValve t e| t.vmin)) := by
  have eq : valveOf t vmax e = if |e| ≤ t.db then (0, false) else
      let v := if rawValve t e ≠ 0 ∧ |rawValve t e| < t.vmin then signOf e * t.vmin else rawValve t e
      if vmax < |v| then (signOf e * vmax, true) else (v, false) := by
    unfold valveOf rawValve truncDiv
    split <;> rfl
  rw [eq]
  by_cases zero : rawValve t e = 0
  · simp [zero, not_lt.2 hv]
  · have beyond : ¬|e| ≤ t.db := fun within => zero (if_pos within)
    have raised : (if rawValve t e ≠ 0 ∧ |rawValve t e| < t.vmin then signOf e * t.vmin else rawValve t e) =
        signOf e * max |rawValve t e| t.vmin := by
      split
      next low => rw [max_eq_right low.2.le]
      next high => rw [max_eq_left (not_lt.1 fun low => high ⟨zero, low⟩), ← rawValve_sign kp]
    have size := signOf_mul_abs e (v := max |rawValve t e| t.vmin) (le_max_of_le_left (abs_nonneg _))
    rw [if_neg beyond, if_neg zero]
    simp only [raised, size]
    by_cases above : vmax < max |rawValve t e| t.vmin
    · rw [if_pos above, min_eq_left above.le, decide_eq_true above]
    · rw [if_neg above, min_eq_right (not_lt.1 above), decide_eq_false above]

/-- The clamp to Vmax takes effect on no more than a raised raw command (R70). -/
theorem valveOf_unclamped {t : ChannelTuning} {vmax : Int} {e : Int} (kp : 0 < t.kp) (hv : 0 ≤ vmax)
    (within : rawValve t e = 0 ∨ max |rawValve t e| t.vmin ≤ vmax) : (valveOf t vmax e).2 = false := by
  rw [valveOf_spec e kp hv]
  split
  · rfl
  next moved => exact decide_eq_false (not_lt.2 (within.resolve_left moved))

/-! ### A cycle in AUTO with its source -/

/-- A cycle in AUTO with its source, with no lift and no RETURNING. -/
structure SteadyAuto (x : Side) (m : State) : Prop where
  auto : (m.ch x).state = .auto
  valid : m.cycleValid x = true
  lifted : m.lifted = false
  returning : m.cycleReturning x = false

section
variable {x : Side} {m : State} {drum e : Int} (steady : SteadyAuto x m)
include steady

theorem SteadyAuto.steered : m.steeredChannel x drum = { m.ch x with
    lastLifted := false, sourceValid := true, goal := (m.cycleGoal x drum).goal, heldGoal := (m.cycleGoal x drum).held
    dCmd := m.cycleCmd x drum, returning := false } := by
  obtain ⟨auto, valid, lifted, returning⟩ := steady
  rw [State.steeredChannel, valid, lifted, returning, (judged_auto auto).1]
  rfl

/-- The valve and the on-grade counter follow the error (R69 to R71). -/
theorem SteadyAuto.ch (err : m.cycleErr x drum = some e) : (activeCycle x drum m).ch x = { m.ch x with
    lastLifted := false, sourceValid := true, goal := (m.cycleGoal x drum).goal, heldGoal := (m.cycleGoal x drum).held
    dCmd := m.cycleCmd x drum, returning := false, valve := (valveOf (m.chTun x) m.env.vmax e).1
    grade := if |e| ≤ (m.chTun x).tol then min ((m.ch x).grade + 1) 10 else 0 } := by
  have onGrade : m.cycleOnGrade x drum = decide (|e| ≤ (m.chTun x).tol) := by
    simp only [State.cycleOnGrade, err, onGradeCycle, State.drivenChannel, steady.steered, steady.auto, steady.lifted,
      decide_true, Bool.not_false, Bool.true_and]
  rw [activeCycle_ch, onGrade, State.drivenChannel, steady.steered]
  simp only [steady.auto, if_true, State.cycleValve, err, valveFor, decide_eq_true_eq]

theorem SteadyAuto.sat_flag (err : m.cycleErr x drum = some e) (sat : (valveOf (m.chTun x) m.env.vmax e).2 = true) :
    (activeCycle x drum m).cst.flags.getLsbD (if x = .L then 0 else 3) = true := by
  have auto : (m.steeredChannel x drum).state = .auto := by rw [steady.steered]; exact steady.auto
  have clamped : (m.cycleValve x drum).2 = true := by rw [State.cycleValve, err]; exact sat
  rw [activeCycle_flags, auto, clamped, BitVec.getLsbD_or]
  cases x <;> simp [satFlagOf, Flag.bit, Flag.code]

theorem SteadyAuto.cst (err : m.cycleErr x drum = some e) (goal : (m.cycleGoal x drum).clamped m.lifted = false)
    (sat : (valveOf (m.chTun x) m.env.vmax e).2 = false) : (activeCycle x drum m).cst = m.cst := by
  refine activeCycle_cst_kept ?_ goal (.inr ?_)
  · rw [steady.valid, (judged_auto steady.auto).2]
  · rw [State.cycleValve, err]
    exact sat

theorem SteadyAuto.tqs : (activeCycle x drum m).tqs = m.tqs := by
  rw [activeCycle_sourced_tqs, sourced_auto steady.auto steady.valid]
  simp

theorem SteadyAuto.rest (drum : Int) : activeCycle x drum m = { m with
    chL := (activeCycle x drum m).chL, chR := (activeCycle x drum m).chR, cst := (activeCycle x drum m).cst
    clp := (activeCycle x drum m).clp } := by
  apply State.eq_of_fields <;> simp [steady.tqs]

theorem SteadyAuto.reports : reportsMade 0b000000110 m (activeCycle x drum m) :=
  reportsMade_activeCycle_auto (by decide) (by decide) steady.auto steady.valid drum

end

/-! ### A cycle without markers -/

theorem evaluated_unmarked {x : Side} {s : State} (markers : s.mlc.markers = [])
    (causes : s.mlc.causes = ⟨false, false, false⟩) :
    evaluated x s = s := by
  unfold evaluated
  split
  · exact evaluateMarkers_nil s.drum markers causes
  · rfl

/-- Without markers and without a lift cause the measures touch the sampled channel and the raw slope count alone. -/
theorem measured_unmarked {x : Side} {s : State} (plate leg slope : Nat) (markers : s.mlc.markers = [])
    (causes : s.mlc.causes = ⟨false, false, false⟩) : measured x plate leg slope s = { s with
      slopeRaw := slope, chL := (measured x plate leg slope s).chL, chR := (measured x plate leg slope s).chR } ∧
    reportsMade 0b000000110 s (measured x plate leg slope s) := by
  have rest := measured_rest x plate leg slope s
  rw [evaluated_unmarked markers causes] at rest
  refine ⟨rest, ?_⟩
  rw [measured_eq, evaluated_unmarked markers causes]
  exact reportsMade_samples _ x plate leg slope s

/-- The change from before the measures to after the cycle. -/
theorem cycle_rest {s m t : State} {slope : Nat}
    (before : m = { s with slopeRaw := slope, chL := m.chL, chR := m.chR })
    (after : t = { m with chL := t.chL, chR := t.chR, cst := t.cst, clp := t.clp }) :
    t = { s with slopeRaw := slope, chL := t.chL, chR := t.chR, cst := t.cst, clp := t.clp } :=
  after.trans (by rw [before])

/-- With no lift and no RETURNING before it the cycle has neither (R66, R86). -/
theorem measured_steady {x : Side} {s : State} (plate leg slope : Nat) (last : (s.ch x).lastLifted = false)
    (returning : (s.ch x).returning = false) (markers : s.mlc.markers = [])
    (causes : s.mlc.causes = ⟨false, false, false⟩) :
    (measured x plate leg slope s).lifted = false ∧ (measured x plate leg slope s).cycleReturning x = false := by
  have mlc : (measured x plate leg slope s).mlc = s.mlc := by rw [(measured_unmarked plate leg slope markers causes).1]
  have lifted : (measured x plate leg slope s).lifted = false := by
    rw [← Bool.not_eq_true, lifted_iff, mlc, causes]
    exact fun h => h.1 rfl
  refine ⟨lifted, ?_⟩
  rw [State.cycleReturning, lifted, measured_ch]
  simp [returningAfter, last, returning]

/-! ### The sources of a side whose ski has no weight (R58, R59) -/

section
variable {x : Side} {m : State} (ski : (m.chTun x).wSK = 0)
include ski

theorem weighted_plate {d : Int} (plate : (m.ch x).plate = some d) (wSP : 0 < (m.chTun x).wSP) :
    m.weighted x = [((m.chTun x).wSP, d)] := by
  simp only [State.weighted, State.sourceSP, plate, wSP, ski, if_true, lt_irrefl, if_false]
  cases m.sourceSK x <;> rfl

theorem weighted_no_plate (plate : (m.ch x).plate = none) : m.weighted x = [] := by
  simp only [State.weighted, State.sourceSP, plate, ski, lt_irrefl, if_false]
  cases m.sourceSK x <;> rfl

end

theorem cycleControl_depth {m : State} {x : Side} (mode : (m.ch x).mode = .depth) : m.cycleControl x = .depth := by
  simp [State.cycleControl, controlInUse, mode]

theorem cycleValid_depth {m : State} {x : Side} (mode : (m.ch x).mode = .depth) :
    m.cycleValid x = !(m.weighted x).isEmpty := by
  rw [State.cycleValid, cycleControl_depth mode]
  rfl

/-- The ramp as one formula where the downward rate is not negative (R65). -/
theorem ramp_eq {e : Envelope} {cmd g : Int} (rd : 0 ≤ e.rd) :
    ramp e cmd g = if g < cmd then max g (cmd - e.ru) else min g (cmd + e.rd) := by
  unfold ramp
  split
  · rfl
  · split <;> omega

theorem cutStep_unclamped {e : Envelope} {raw held : Int} (lo : 0 ≤ raw) (hi : raw ≤ e.dmax) :
    (cutStep e raw held).clamped false = false := by
  have kept : clamp raw 0 e.dmax = raw := by
    unfold clamp
    rw [if_neg (by omega), if_neg (by omega)]
  simp [GoalStep.clamped, cutStep, kept]

/-- A sample within the limits of R57. -/
theorem scaleSensor_valid {k : SensorCal} {lo hi : Int} {raw : Nat} (low : 614 ≤ raw) (high : raw ≤ 3532) :
    scaleSensor k lo hi raw = some (clamp (k.zero + Int.tdiv (((raw : Int) - 683) * k.span) 2730) lo hi) := by
  rw [scaleSensor_eq, if_pos ⟨low, high⟩]

theorem scaleSensor_invalid {k : SensorCal} {lo hi : Int} {raw : Nat} (outside : raw < 614 ∨ 3532 < raw) :
    scaleSensor k lo hi raw = none := by
  rw [scaleSensor_eq, if_neg (by omega)]

/-- Settles O22: with the side plate alone the measured depth is its value, and the cycle in AUTO goes through the goal, the
ramp, the valve and the counter of that depth. -/
theorem loopCycleDepthControl : Obligations.LoopCycleDepthControl := by
  intro s x plate leg slope g cmd e v d auto mode last ret markers causes target low high wSP wSK hd hg hcmd rd vmax kp he hv
  obtain ⟨before, sampled⟩ := measured_unmarked (x := x) plate leg slope markers causes
  obtain ⟨lifted, returning⟩ := measured_steady plate leg slope last ret markers causes
  have start := measured_ch x plate leg slope s
  have other := measured_other x plate leg slope s
  obtain ⟨plateValue, -, -⟩ := measured_samples x plate leg slope s
  have fusedValue := measured_dMeas x plate leg slope s
  have cycle : loopCycle x plate leg slope s = activeCycle x s.drum _ := loopCycle_active (.inl auto) plate leg slope
  generalize measured x plate leg slope s = m at before sampled lifted returning start other plateValue fusedValue cycle
  have mpr : m.mpr = s.mpr := by rw [before]
  have tun : m.chTun x = s.chTun x := chTun_congr mpr x
  have env : m.env = s.env := congrArg (fun p => p.params.env) mpr
  have modeKept : (m.ch x).mode = .depth := by rw [start]; exact mode
  have cst : m.cst = s.cst := by rw [before]
  rw [scaleSensor_valid low high, ← hd] at plateValue
  rw [← tun] at wSP wSK
  have sources : m.weighted x = [((m.chTun x).wSP, d)] := weighted_plate wSK plateValue wSP
  have measuredDepth : (m.ch x).dMeas = d := by
    rw [fusedValue, sources, if_neg (List.cons_ne_nil _ _)]
    simpa using Int.mul_tdiv_cancel_left d wSP.ne'
  have steady : SteadyAuto x m :=
    ⟨by rw [start]; exact auto, by rw [cycleValid_depth modeKept, sources]; rfl, lifted, returning⟩
  have goal : m.cycleGoal x s.drum = cutStep s.env ((s.ch x).depthSet + (s.ch x).trim) (s.ch x).heldGoal := by
    rw [State.cycleGoal, lifted, goalStep_set s.drum _ modeKept (by rw [before]; exact target), env, start]
  have command : m.cycleCmd x s.drum = cmd := by
    rw [cycleCmd_depth s.drum (by rw [cycleControl_depth modeKept]; decide), goal, env, start, hcmd, hg]
    exact ramp_eq rd
  have err : m.cycleErr x s.drum = some e := by
    rw [State.cycleErr, cycleControl_depth modeKept, command, measuredDepth, he]
  have raw : v = rawValve (s.chTun x) e := hv
  have ch := steady.ch err
  have spec := valveOf_spec e kp vmax
  refine ⟨activeCycle x s.drum m, by rw [← cycle]; rfl, ?_, ?_, ?_, ?_, fun zero => ?_, fun moved => ?_, ?_, fun outside => ?_,
    fun moved above => ?_, fun lo hi within => ?_, ?_, ?_, ?_, ?_, ?_, ?_, ?_, ?_, ?_, ?_⟩
  · rw [ch]; exact steady.auto
  · rw [ch]; exact measuredDepth
  · rw [ch, goal, hg]; rfl
  · rw [ch]; exact command
  · rw [ch, tun, env, spec, if_pos (raw ▸ zero)]
  · rw [ch, tun, env, spec, if_neg (raw ▸ moved), raw]; rfl
  · rw [ch, tun, start]
  · have flag := activeCycle_clamped (x := x) (drum := s.drum) (s := m) (by rw [goal, lifted]; exact cutStep_clamped outside)
    cases x <;> exact flag
  · refine steady.sat_flag err ?_
    rw [tun, env, spec, if_neg (raw ▸ moved), ← raw]
    exact decide_eq_true above
  · rw [← cst]
    refine steady.cst err (by rw [goal, lifted]; exact cutStep_unclamped lo hi) ?_
    rw [tun, env]
    exact valveOf_unclamped kp vmax (raw ▸ within)
  · rw [ch, goal]; rfl
  · rw [ch]
  · rw [ch, start]
  · rw [ch, start]
  · rw [ch, start]
  · rw [ch, start]
  · rw [ch, start]
  · rw [activeCycle_other, other]
  · exact sampled.trans steady.reports
  · exact cycle_rest before (steady.rest s.drum)

/-! ### Slope control (R67) -/

/-- The slope error of a side, negated on the left (R67). -/
theorem slopeError_eq {m : State} {x : Side} {val w : Int} (slope : (m.ch x).slope = some val) (width : m.geo.w = some w) :
    m.slopeError x = some (if x = .L then -Int.tdiv (((m.ch x).slopeSet - val) * w) 1000
      else Int.tdiv (((m.ch x).slopeSet - val) * w) 1000) := by
  unfold State.slopeError truncDiv
  rw [slope, width]
  cases x <;> rfl

theorem cycleValid_slope {m : State} {x : Side} (control : m.cycleControl x = .slope) :
    m.cycleValid x = (m.ch x).slope.isSome := by
  rw [State.cycleValid, control]
  rfl

/-! ### The loss and the return of the source in a cycle (R49) -/

/-- A cycle whose step 2 changes the channel's state or its cause SOURCE forms the permit and reports the channel (R52, R175). -/
theorem loopCycle_moved {x : Side} {plate leg slope : Nat} {s m : State} (hm : measured x plate leg slope s = m)
    (active : (s.ch x).state = .auto ∨ (s.ch x).state = .held)
    (moved : ((m.ch x).judged (m.cycleValid x)).state ≠ (m.ch x).state ∨
      ((m.ch x).judged (m.cycleValid x)).holdSource ≠ (m.ch x).holdSource) :
    (loopCycle x plate leg slope s).tqs = { s.tqs with
      permit := (loopCycle x plate leg slope s).permitOf, reasons := (loopCycle x plate leg slope s).reasonsOf } ∧
    (s.clp.enabled.getLsbD 0 = true → (loopCycle x plate leg slope s).clp.waiting.getLsbD 0 = true) := by
  have tqs : m.tqs = s.tqs := by rw [← hm, measured_rest]
  have enabledKept : m.clp.enabled = s.clp.enabled := by
    rw [← hm, measured_rest]
    cases x <;> simp [evaluated]
  rw [loopCycle_active active, hm, ← tqs, ← enabledKept]
  refine ⟨activeCycle_permit s.drum moved, (activeCycle_keeps x s.drum _).reports.state_pending x ?_⟩
  rw [activeCycle_ch]
  exact moved.imp_right .inl

/-- The channel of a cycle in AUTO that loses its source (R49). -/
theorem activeCycle_lost {x : Side} {m : State} (drum : Int) (auto : (m.ch x).state = .auto) (lost : m.cycleValid x = false) :
    ((activeCycle x drum m).ch x).state = .held ∧ ((activeCycle x drum m).ch x).holdSource = true ∧
    ((activeCycle x drum m).ch x).holdLink = false ∧ ((activeCycle x drum m).ch x).valve = 0 ∧
    ((activeCycle x drum m).ch x).sourceValid = false ∧ ((activeCycle x drum m).ch x).grade = 0 ∧
    (activeCycle x drum m).cst.flags.getLsbD (if x = .L then 1 else 4) = true := by
  have judged : (m.ch x).judged false = { m.ch x with state := .held, holdSource := true, holdLink := false, valve := 0 } := by
    simp [Channel.judged, auto]
  have driven : (m.drivenChannel x drum).state = .held ∧ (m.drivenChannel x drum).valve = 0 := by
    simp [State.drivenChannel, State.steeredChannel, lost, judged]
  have offGrade : m.cycleOnGrade x drum = false := by
    unfold State.cycleOnGrade onGradeCycle
    rw [driven.1]
    cases m.cycleErr x drum <;> rfl
  have flag : (m.ch x).lost false = true := by simp [Channel.lost, auto]
  rw [activeCycle_ch, activeCycle_flags, offGrade, lost, flag]
  refine ⟨driven.1, ?_, ?_, driven.2, lost, rfl, ?_⟩
  · simp [State.drivenChannel, State.steeredChannel, lost, judged]
  · simp [State.drivenChannel, State.steeredChannel, lost, judged]
  · cases x <;> simp [srcLossFlagOf, Flag.bit, Flag.code]

/-- The channel of a cycle in HELD that regains its source (R49). -/
theorem activeCycle_regained {x : Side} {m : State} (drum : Int) (held : (m.ch x).state = .held)
    (cause : (m.ch x).holdSource = true) (valid : m.cycleValid x = true) :
    ((activeCycle x drum m).ch x).state = (if (m.ch x).holdLink then .held else .auto) ∧
    ((activeCycle x drum m).ch x).holdSource = false ∧ ((activeCycle x drum m).ch x).holdLink = (m.ch x).holdLink ∧
    ((activeCycle x drum m).ch x).sourceValid = true := by
  have judged : (m.ch x).judged true =
      { m.ch x with holdSource := false, state := if (m.ch x).holdLink then .held else .auto } := by
    simp [Channel.judged, held, cause]
  rw [activeCycle_ch]
  simp [State.drivenChannel, State.steeredChannel, valid, judged]

/-- Settles O24: in slope control there is no goal and the error is the slope's; without its value the source is lost. -/
theorem loopCycleSlopeControl : Obligations.LoopCycleSlopeControl := by
  intro s x plate leg slope auto mode last ret markers causes
  obtain ⟨before, sampled⟩ := measured_unmarked (x := x) plate leg slope markers causes
  obtain ⟨lifted, returning⟩ := measured_steady plate leg slope last ret markers causes
  have start := measured_ch x plate leg slope s
  have other := measured_other x plate leg slope s
  obtain ⟨-, -, slopeValue⟩ := measured_samples x plate leg slope s
  have cycle : loopCycle x plate leg slope s = activeCycle x s.drum _ := loopCycle_active (.inl auto) plate leg slope
  generalize hm : measured x plate leg slope s = m at before sampled lifted returning start other slopeValue cycle
  have control : m.cycleControl x = .slope := (cycleControl_slope_iff m x).2 ⟨by rw [start]; exact mode, lifted, returning⟩
  have valid := cycleValid_slope control
  have autoKept : (m.ch x).state = .auto := by rw [start]; exact auto
  refine ⟨fun w val e0 e v low high width kp vmax hval he0 he hv => ?_, fun outside => ?_⟩
  · have mpr : m.mpr = s.mpr := by rw [before]
    have tun : m.chTun x = s.chTun x := chTun_congr mpr x
    have env : m.env = s.env := congrArg (fun p => p.params.env) mpr
    have geo : m.geo = s.geo := congrArg (fun p => p.params.geo) mpr
    have cst : m.cst = s.cst := by rw [before]
    have setpoint : (m.ch x).slopeSet = (s.ch x).slopeSet := by rw [start]
    rw [scaleSensor_valid low high, ← hval] at slopeValue
    have steady : SteadyAuto x m := ⟨autoKept, by rw [valid, slopeValue]; rfl, lifted, returning⟩
    have goal := cycleGoal_slope s.drum control
    have err : m.cycleErr x s.drum = some e := by
      rw [State.cycleErr, control, he, he0, ← setpoint]
      exact slopeError_eq slopeValue (by rw [geo]; exact width)
    have raw : v = rawValve (s.chTun x) e := hv
    have ch := steady.ch err
    have spec := valveOf_spec e kp vmax
    refine ⟨activeCycle x s.drum m, by rw [← cycle]; rfl, ?_, ?_, ?_, ?_, fun zero => ?_, fun moved => ?_, ?_,
      fun moved above => ?_, fun within => ?_, ?_, ?_, ?_⟩
    · rw [ch]; exact steady.auto
    · rw [ch]; exact slopeValue
    · rw [ch, goal]
    · rw [ch]
    · rw [ch, tun, env, spec, if_pos (raw ▸ zero)]
    · rw [ch, tun, env, spec, if_neg (raw ▸ moved), raw]; rfl
    · rw [ch, tun, start]
    · refine steady.sat_flag err ?_
      rw [tun, env, spec, if_neg (raw ▸ moved), ← raw]
      exact decide_eq_true above
    · rw [← cst]
      refine steady.cst err (by rw [goal]; rfl) ?_
      rw [tun, env]
      exact valveOf_unclamped kp vmax (raw ▸ within)
    · rw [activeCycle_other, other]
    · exact sampled.trans steady.reports
    · exact cycle_rest before (steady.rest s.drum)
  · rw [scaleSensor_invalid outside] at slopeValue
    have lost : m.cycleValid x = false := by rw [valid, slopeValue]; rfl
    obtain ⟨state, source, link, valve, shown, grade, flag⟩ := activeCycle_lost s.drum autoKept lost
    have slopeKept : ((activeCycle x s.drum m).ch x).slope = none := by
      rw [(activeCycle_measures x s.drum m).slope, slopeValue]
    obtain ⟨permit, pending⟩ := loopCycle_moved hm (.inl auto) (.inl (by simp [lost, Channel.judged, autoKept]))
    rw [cycle] at permit pending
    exact ⟨activeCycle x s.drum m, by rw [← cycle]; rfl, state, source, link, valve, slopeKept, shown, grade, flag, permit,
      pending⟩

/-- Settles O25: the side plate alone is the source, so step 2 judges the channel by its sample. -/
theorem sourceLossAndReturn : Obligations.SourceLossAndReturn := by
  intro s x plate leg slope mode wSK
  have start := measured_ch x plate leg slope s
  obtain ⟨plateValue, -, -⟩ := measured_samples x plate leg slope s
  have mpr : (measured x plate leg slope s).mpr = s.mpr := by rw [measured_rest]
  have fusedValue := measured_dMeas x plate leg slope s
  have active := loopCycle_active (x := x) (s := s) (plate := plate) (leg := leg) (slope := slope)
  generalize hm : measured x plate leg slope s = m at start plateValue mpr fusedValue active
  have tun : m.chTun x = s.chTun x := chTun_congr mpr x
  have state : (m.ch x).state = (s.ch x).state := by rw [start]
  have source : (m.ch x).holdSource = (s.ch x).holdSource := by rw [start]
  have link : (m.ch x).holdLink = (s.ch x).holdLink := by rw [start]
  have valid : m.cycleValid x = !(m.weighted x).isEmpty := cycleValid_depth (by rw [start]; exact mode)
  rw [← tun] at wSK
  refine ⟨fun auto outside => ?_, fun held cause wSP low high => ?_⟩
  · have sources : m.weighted x = [] := weighted_no_plate wSK (by rw [plateValue, scaleSensor_invalid outside])
    have lost : m.cycleValid x = false := by rw [valid, sources]; rfl
    have autoKept := state.trans auto
    obtain ⟨toHeld, withSource, withoutLink, valve, shown, grade, flag⟩ := activeCycle_lost s.drum autoKept lost
    have depth : ((activeCycle x s.drum m).ch x).dMeas = (s.ch x).dMeas := by
      rw [(activeCycle_measures x s.drum m).dMeas, fusedValue, if_pos sources]
    obtain ⟨permit, pending⟩ := loopCycle_moved hm (.inl auto) (.inl (by simp [lost, Channel.judged, autoKept]))
    have cycle := active (.inl auto)
    rw [cycle] at permit pending
    exact ⟨activeCycle x s.drum m, by rw [← cycle]; rfl, toHeld, withSource, withoutLink, valve, depth, shown, grade, flag,
      permit, pending⟩
  · have sources := weighted_plate wSK (plateValue.trans (scaleSensor_valid low high)) (by rw [tun]; exact wSP)
    have found : m.cycleValid x = true := by rw [valid, sources]; rfl
    have heldKept := state.trans held
    have causeKept := source.trans cause
    obtain ⟨back, withoutSource, linkKept, shown⟩ := activeCycle_regained s.drum heldKept causeKept found
    obtain ⟨permit, pending⟩ :=
      loopCycle_moved hm (.inr held) (.inr (by simp [found, Channel.judged, heldKept, causeKept]))
    have cycle := active (.inr held)
    rw [cycle] at permit pending
    rw [link] at back linkKept
    exact ⟨activeCycle x s.drum m, by rw [← cycle]; rfl, back, withoutSource, linkKept, shown, permit, pending⟩

end Sys2Proof.Machine
end

section
/-! The channels' invariant (R44, R70): what each operation on a channel makes of a sound one, and that every step keeps both
sound. -/

namespace Sys2Proof.Machine

/-! ### A sound channel -/

section
variable {vmax : Int} {c : Channel}

/-- Soundness reads the state, the causes and the valve alone. -/
theorem Channel.sound_congr {d : Channel} (hs : d.state = c.state) (ho : d.holdSource = c.holdSource)
    (hl : d.holdLink = c.holdLink) (hv : d.valve = c.valve) (h : c.sound vmax) : d.sound vmax := by
  unfold Channel.sound at h ⊢
  rwa [hs, ho, hl, hv]

theorem toOff_sound (hv : 0 ≤ vmax) (c : Channel) : c.toOff.sound vmax := by
  simp [Channel.sound, Channel.toOff, hv]

theorem switchedOff_sound (hv : 0 ≤ vmax) (h : c.sound vmax) : c.switchedOff.sound vmax := by
  unfold Channel.switchedOff
  split
  · exact h
  · exact toOff_sound hv c

/-- ENGAGE keeps the valve, which is 0 in the states it leaves, and clears the causes (R45). -/
theorem engaged_sound (e : Envelope) (h : c.sound vmax) : (c.engaged e).sound vmax := by
  obtain ⟨still, low, high, causes⟩ := h
  unfold Channel.engaged Channel.sound
  cases state : c.state <;> simp_all

theorem linkHeld_sound (hv : 0 ≤ vmax) (h : c.sound vmax) : c.linkHeld.sound vmax := by
  obtain ⟨still, low, high, causes⟩ := h
  unfold Channel.linkHeld
  cases state : c.state with
  | off => exact ⟨still, low, high, causes⟩
  | jog => exact toOff_sound hv c
  | auto => simp [Channel.sound, hv]
  | held => simp_all [Channel.sound]

theorem clamp_bounds {lo hi : Int} (h : lo ≤ hi) (v : Int) : lo ≤ clamp v lo hi ∧ clamp v lo hi ≤ hi := by
  unfold clamp
  split
  · omega
  · split <;> omega

/-- JOG drives a clamped valve in a state without causes (R47). -/
theorem jogged_sound (hv : 0 ≤ vmax) (v : Int) (duration : Nat) (notHeld : c.state ≠ .held) (h : c.sound vmax) :
    (c.jogged (clamp v (-vmax) vmax) duration).sound vmax := by
  obtain ⟨-, -, -, causes⟩ := h
  obtain ⟨low, high⟩ := clamp_bounds (show -vmax ≤ vmax by omega) v
  have free := mt causes.2 notHeld
  exact ⟨fun resting => by simp [Channel.jogged] at resting, low, high,
    ⟨fun held => by simp [Channel.jogged] at held, fun cause => absurd cause free⟩⟩

/-- Step 2 of a cycle holds a channel with valve 0 and lets it go without causes (R49). -/
theorem judged_sound (hv : 0 ≤ vmax) (valid : Bool) (h : c.sound vmax) : (c.judged valid).sound vmax := by
  obtain ⟨still, low, high, causes⟩ := h
  unfold Channel.judged Channel.sound
  cases state : c.state <;> cases valid <;> simp_all
  cases c.holdSource <;> cases c.holdLink <;> simp_all

theorem tick_sound (h : c.sound vmax) : c.tick.sound vmax := by
  unfold Channel.tick
  split
  · exact h
  · exact h

/-- A channel at rest with valve 0 is sound under any Vmax. -/
theorem sound_resting {vmax' : Int} (hv : 0 ≤ vmax') (resting : c.state = .off ∨ c.state = .held) (h : c.sound vmax) :
    c.sound vmax' := by
  obtain ⟨still, -, -, causes⟩ := h
  have zero := still resting
  exact ⟨still, by omega, by omega, causes⟩

/-- The valve command never exceeds Vmax (R70). -/
theorem valveFor_within (t : ChannelTuning) (hv : 0 ≤ vmax) (e : Option Int) :
    -vmax ≤ (valveFor t vmax e).1 ∧ (valveFor t vmax e).1 ≤ vmax := by
  cases e with
  | none => exact ⟨by simpa [valveFor] using hv, hv⟩
  | some e =>
    have clamped (v : Int) : |(if vmax < |v| then (signOf e * vmax, true) else (v, false)).1| ≤ vmax := by
      split
      next => exact (signOf_mul_abs e hv).le
      next within => exact not_lt.1 within
    rw [← abs_le]
    simp only [valveFor, valveOf]
    split
    · simpa using hv
    · exact clamped _

end

/-! ### A sound cycle -/

/-- After steps 2 to 7 a channel in HELD has the valve of step 2, one in AUTO the driven one (R70). -/
theorem drivenChannel_sound {s : State} {x : Side} {vmax : Int} (drum : Int) (env : s.env.vmax = vmax) (hv : 0 ≤ vmax)
    (h : (s.ch x).sound vmax) : (s.drivenChannel x drum).sound vmax := by
  obtain ⟨still, low, high, causes⟩ := judged_sound hv (s.cycleValid x) h
  obtain ⟨above, below⟩ := valveFor_within (s.chTun x) hv (s.cycleErr x drum)
  unfold State.drivenChannel State.cycleValve
  rw [env]
  by_cases auto : (s.steeredChannel x drum).state = .auto
  · rw [if_pos auto]
    refine ⟨fun resting => ?_, above, below, causes⟩
    rcases resting with e | e <;> exact absurd (auto.symm.trans e) (by decide)
  · rw [if_neg auto]
    exact ⟨still, low, high, causes⟩

theorem loopCycle_sound {s : State} {x : Side} (plate leg slope : Nat) (hv : 0 ≤ s.env.vmax) (y : Side)
    (h : (s.ch y).sound s.env.vmax) : ((loopCycle x plate leg slope s).ch y).sound s.env.vmax := by
  by_cases same : y = x
  · subst same
    have env : (measured y plate leg slope s).env.vmax = s.env.vmax := by rw [measured_rest]
    have before : ((measured y plate leg slope s).ch y).sound s.env.vmax := by
      rw [measured_ch]
      exact h
    obtain resting | active := resting_or_active (s.ch y)
    · rw [loopCycle_resting resting, restingCycle_ch]
      exact before
    · rw [loopCycle_active active, activeCycle_ch]
      exact drivenChannel_sound s.drum env hv before
  · obtain rfl : y = x.other := by cases x <;> cases y <;> simp_all [Side.other]
    rw [(loopCycle_keeps x plate leg slope s).other, measured_other]
    exact h

/-! ### Both channels -/

theorem channelsSound_iff (s : State) : s.channelsSound ↔
    100 ≤ s.env.vmax ∧ s.env.vmax ≤ 1000 ∧ ∀ x, (s.ch x).sound s.env.vmax :=
  and_congr_right fun _ => and_congr_right fun _ =>
    ⟨fun ⟨left, right⟩ x => match x with | .L => left | .R => right, fun both => ⟨both .L, both .R⟩⟩

/-- An operation that keeps Vmax keeps the channels sound where it keeps each. -/
theorem channelsSound_of_each {s t : State} (env : t.env.vmax = s.env.vmax)
    (each : 0 ≤ s.env.vmax → ∀ x, (s.ch x).sound s.env.vmax → (t.ch x).sound s.env.vmax) (h : s.channelsSound) :
    t.channelsSound := by
  obtain ⟨low, high, both⟩ := (channelsSound_iff s).1 h
  rw [channelsSound_iff, env]
  exact ⟨low, high, fun x => each (by omega) x (both x)⟩

theorem channelsSound_of_kept {s t : State} (hm : t.mpr = s.mpr) (hl : t.chL = s.chL) (hr : t.chR = s.chR)
    (h : s.channelsSound) : t.channelsSound := by
  unfold State.channelsSound State.env at h ⊢
  rwa [hm, hl, hr]

/-- A change of one channel into a sound one. -/
theorem setCh_channelsSound {s : State} {x : Side} {c : Channel}
    (sound : 0 ≤ s.env.vmax → (s.ch x).sound s.env.vmax → c.sound s.env.vmax) (h : s.channelsSound) :
    (s.setCh x c).channelsSound := by
  refine channelsSound_of_each (by simp [State.env]) (fun hv y hy => ?_) h
  by_cases same : y = x
  · subst same
    rw [setCh_ch]
    exact sound hv hy
  · obtain rfl : y = x.other := by cases x <;> cases y <;> simp_all [Side.other]
    rw [setCh_ch_other]
    exact hy

theorem formPermit_channelsSound {s : State} (h : s.channelsSound) : (formPermit s).channelsSound :=
  channelsSound_of_kept (by simp) (by simp) (by simp) h

/-! ### The requests -/

theorem serveEngage_channelsSound (side : Nat) {s : State} (h : s.channelsSound) : (serveEngage side s).1.channelsSound := by
  unfold serveEngage
  split
  next => exact h
  next sides named =>
    (repeat' split)
    · exact h
    · exact h
    · exact h
    · exact h
    · refine formPermit_channelsSound (channelsSound_of_each (by simp [State.env]) (fun _ x sound => ?_) h)
      rw [engaged_ch s named]
      split
      · exact engaged_sound _ sound
      · exact sound

theorem serveDisengage_channelsSound (side : Nat) {s : State} (h : s.channelsSound) :
    (serveDisengage side s).1.channelsSound := by
  unfold serveDisengage
  split
  next => exact h
  next sides named =>
    refine formPermit_channelsSound (channelsSound_of_each (by simp [State.env]) (fun hv x sound => ?_) h)
    rw [disengage_ch s named]
    split
    · exact switchedOff_sound hv sound
    · exact sound

theorem serveJog_channelsSound (side : Nat) (valve : Int) (duration : Nat) {s : State} (h : s.channelsSound) :
    (serveJog side valve duration s).1.channelsSound := by
  unfold serveJog
  split
  next => exact h
  next x _ =>
    (repeat' split)
    · exact h
    · exact h
    · exact h
    next idle =>
      refine formPermit_channelsSound (channelsSound_of_each (by simp [State.env]) (fun hv y sound => ?_) h)
      rw [changeChannel_ch_eq]
      split
      next same =>
        subst same
        exact jogged_sound hv valve duration (fun held => idle (.inr held)) sound
      next => exact sound

theorem serveSetPoint_channelsSound (side mode : Nat) (depth slope : Int) {s : State} (h : s.channelsSound) :
    (serveSetPoint side mode depth slope s).1.channelsSound := by
  unfold serveSetPoint
  (repeat' split)
  · exact h
  · exact h
  · exact setCh_channelsSound (fun _ sound => sound) h
  · exact h

theorem serveSetTrim_channelsSound (side : Nat) (trim : Int) {s : State} (h : s.channelsSound) :
    (serveSetTrim side trim s).1.channelsSound := by
  unfold serveSetTrim
  split
  · exact h
  · exact setCh_channelsSound (fun _ sound => sound) h

theorem serveSelectTarget_channelsSound (source : Nat) {s : State} (h : s.channelsSound) :
    (serveSelectTarget source s).1.channelsSound := by
  unfold serveSelectTarget
  split
  · exact h
  next target _ =>
    refine channelsSound_of_each (by simp [accept, State.env]) (fun _ x sound => ?_) h
    refine Channel.sound_congr ?_ ?_ ?_ ?_ sound <;> cases target <;> cases x <;> simp [accept, selectTarget]

/-! ### SET_PARAM (R180 to R182) -/

/-- A row of the parameter table keeps Vmax, or is an envelope row that writes one within its range (section 10.1). -/
theorem paramTable_vmax : ∀ row ∈ paramTable, ∀ (v : Int) (p : Params), row.ok v = true →
    (row.put v p).env.vmax = p.env.vmax ∨
    row.cls = .envelope ∧ 100 ≤ (row.put v p).env.vmax ∧ (row.put v p).env.vmax ≤ 1000 := by
  simp only [paramTable, geometryRows, envelopeRows, travelPlanRows, scannerRows, loadingLinkRows, channelRows,
    calibrationRows, List.cons_append, List.nil_append, chanRows, sensorRows, List.forall_mem_cons]
  simp [geoRow, envRow, tunRow, tunRowOk, offsetRow, within]
  exact fun v p low high => .inr ⟨low, high⟩

/-- What the owner's act at a write makes of a channel: its state, its causes and its valve stay (R181, R182). -/
theorem ownerAct_channelsSound (id : Nat) {s : State} (h : s.channelsSound) : (ownerAct id s).channelsSound := by
  unfold ownerAct
  split
  case h_4 | h_5 =>
    exact channelsSound_of_each rfl (fun _ x sound => by cases x <;> exact sound) h
  case h_6 | h_7 => exact channelsSound_of_each rfl (fun _ x sound => by cases x <;> exact sound) h
  all_goals
    refine channelsSound_of_kept ?_ ?_ ?_ h <;>
      simp [pairComplete, writeRefMode, writeLt, apply_ite State.mpr, apply_ite State.chL, apply_ite State.chR]

/-- The envelope gate finds both channels at rest (R180). -/
theorem resting_of_envelopeGate {s : State} (gate : s.envelopeGate = true) (x : Side) :
    (s.ch x).state = .off ∨ (s.ch x).state = .held := by
  simp only [State.envelopeGate, Bool.not_eq_true', Bool.or_eq_false_iff, decide_eq_false_iff_not] at gate
  obtain ⟨⟨⟨autoL, jogL⟩, autoR⟩, jogR⟩ := gate
  cases x
  · cases state : s.chL.state <;> simp_all
  · cases state : s.chR.state <;> simp_all

/-- An accepted write keeps Vmax, or writes one within its range while both channels rest (R180). -/
theorem writeItem_channelsSound {row : ParamRow} (mem : row ∈ paramTable) {v : Int} (ok : row.ok v = true) {s : State}
    (gate : s.writeGate row.cls = true) (h : s.channelsSound) : (writeItem row v s).channelsSound := by
  refine ownerAct_channelsSound _ ?_
  obtain kept | ⟨cls, low, high⟩ := paramTable_vmax row mem v s.mpr.params ok
  · exact channelsSound_of_each kept (fun _ x sound => by cases x <;> exact sound) h
  · obtain ⟨-, -, both⟩ := (channelsSound_iff s).1 h
    rw [cls] at gate
    refine (channelsSound_iff _).2 ⟨low, high, fun x => ?_⟩
    have sound := sound_resting (vmax' := (row.put v s.mpr.params).env.vmax) (by omega) (resting_of_envelopeGate gate x) (both x)
    cases x <;> exact sound

theorem serveSetParam_channelsSound (item : Nat) (v : Int) {s : State} (h : s.channelsSound) :
    (serveSetParam item v s).1.channelsSound := by
  have locked : (refuseLocked s).1.channelsSound := by
    refine channelsSound_of_kept ?_ ?_ ?_ h <;> simp [refuseLocked, refuse]
  unfold serveSetParam
  split
  next => exact h
  next row found =>
    split
    next => exact h
    next =>
      split
      next => exact locked
      next =>
        split
        next => exact h
        next ok =>
          split
          next => exact h
          next gate =>
            exact writeItem_channelsSound (List.mem_of_find?_eq_some found) (by simpa using ok) (by simpa using gate) h

theorem serve_channelsSound (r : Request) {s : State} (h : s.channelsSound) : (serve r s).1.channelsSound := by
  cases r
  case engage side => exact serveEngage_channelsSound side h
  case disengage side => exact serveDisengage_channelsSound side h
  case jog side valve duration => exact serveJog_channelsSound side valve duration h
  case setPoint side mode depth slope => exact serveSetPoint_channelsSound side mode depth slope h
  case setTrim side trim => exact serveSetTrim_channelsSound side trim h
  case selectTarget source => exact serveSelectTarget_channelsSound source h
  case setParam item v => exact serveSetParam_channelsSound item v h
  case lockEnvelope => exact h
  case setCalOpen arg =>
    simp only [serve, serveSetCalOpen, refuseLocked]
    (repeat' split) <;>
      exact channelsSound_of_each (by simp [accept, refuse, State.env])
        (fun _ x sound => by cases x <;> simpa [accept, refuse] using sound) h
  case zeroSensor x v =>
    simp only [serve, serveZeroSensor]
    (repeat' split) <;>
      exact channelsSound_of_each rfl (fun _ x sound => by cases x <;> exact sound) h
  case restart =>
    refine channelsSound_of_each (by simp [serve, serveRestart, accept, State.env]) (fun hv x _ => ?_) h
    exact (warmRestart_ch s x).symm ▸ toOff_sound hv _
  all_goals exact channelsSound_of_kept (by simp [serve, refuse]) (by simp [serve, refuse]) (by simp [serve, refuse]) h

theorem channelsSound_linkKeeps : LinkKeeps State.channelsSound where
  clp _ _ h := h
  permit h := formPermit_channelsSound h
  serve r _ h := serve_channelsSound r h

/-! ### Every command and every step -/

theorem enterOff_channelsSound (x : Side) {s : State} (h : s.channelsSound) : (enterOff x s).channelsSound := by
  refine channelsSound_of_each (by simp [State.env]) (fun hv y sound => ?_) h
  rw [enterOff_ch_eq]
  split
  · exact switchedOff_sound hv sound
  · exact sound

theorem jogExpiry_channelsSound (x : Side) {s : State} (h : s.channelsSound) : (jogExpiry x s).channelsSound := by
  unfold jogExpiry
  split
  · exact formPermit_channelsSound (enterOff_channelsSound x h)
  · exact h

theorem linkSilence_channelsSound {s : State} (h : s.channelsSound) : (linkSilence s).channelsSound := by
  unfold linkSilence
  split
  · refine formPermit_channelsSound (channelsSound_of_each (by simp [linkHold_eq, State.env]) (fun hv x sound => ?_) h)
    rw [linkHolds_ch]
    exact linkHeld_sound hv (by cases x <;> exact sound)
  · exact h

/-- Every event row keeps the channels sound. -/
theorem exec_event_channelsSound (i : Instr) (s : State) (hq : queuedOf i = none) (h : s.channelsSound) :
    ∃ t, exec i s = .next t ∧ t.channelsSound := by
  have k := channelsSound_linkKeeps
  have framed {u : State} (hm : u.mpr = s.mpr) (hl : u.chL = s.chL) (hr : u.chR = s.chR) : (startTx u).channelsSound :=
    k.startTx_kept (channelsSound_of_kept hm hl hr h)
  cases i <;> cases hq
  case powerOnReset =>
    refine ⟨_, rfl, channelsSound_of_kept ?_ ?_ ?_ reset_channelsSound⟩ <;> simp [powerOn] <;> rfl
  case eStopAsserted =>
    refine ⟨_, rfl, k.startTx_kept (channelsSound_of_each (by simp [State.env]) (fun hv x sound => ?_) h)⟩
    rw [assertEStop_ch]
    exact switchedOff_sound hv sound
  case loopCycle x plate leg slope =>
    exact ⟨_, rfl, k.startTx_kept (channelsSound_of_each (by simp [State.env]) (loopCycle_sound plate leg slope) h)⟩
  case jogExpiry x => exact ⟨_, rfl, k.startTx_kept (jogExpiry_channelsSound x h)⟩
  case linkSilence => exact ⟨_, rfl, k.startTx_kept (linkSilence_channelsSound h)⟩
  case validFrame bytes => exact ⟨_, rfl, k.startTx_kept (k.linkBytes_kept bytes h)⟩
  case frameStart => exact ⟨_, rfl, k.startTx_kept (k.linkByte_kept startByte h)⟩
  case frameLengthError b => exact ⟨_, rfl, k.startTx_kept (k.linkByte_kept b h)⟩
  case transmitEnd => exact ⟨_, rfl, k.pump_kept (k.clp _ h)⟩
  case gapDiscard =>
    refine ⟨_, rfl, framed ?_ ?_ ?_⟩ <;> unfold linkGap <;> split <;> rfl
  all_goals exact ⟨_, rfl, framed (by simp) (by simp) (by simp)⟩

theorem tick_channelsSound {s : State} (h : s.channelsSound) : (tick s).channelsSound :=
  channelsSound_of_each (s := s) rfl (fun _ x sound => by cases x <;> exact tick_sound sound) h

/-- Settles O56: soundness is a property that the link, every event row and a millisecond keep. -/
theorem channelsSoundKept : Obligations.ChannelsSoundKept := fun _ _ h e =>
  channelsSound_linkKeeps.step_kept exec_event_channelsSound (fun _ _ h => h)
    tick_channelsSound h e

end Sys2Proof.Machine
end

section
/-! The conveyor under E-stop (R51, R166, R176): the command is 0 outside RUNNING and TOPPING, and under E-stop the conveyor is
STOPPED and the permit STOP, at every step. -/

namespace Sys2Proof.Machine

/-! ### A still conveyor -/

/-- The part of the E-stop invariant that TQS keeps (R51, R166, R176). -/
def State.conveyorStill (s : State) : Prop :=
  (s.tqs.conveyor ≠ .running → s.tqs.conveyor ≠ .topping → s.tqs.cmd = 0) ∧
  (s.eStop = true → s.tqs.conveyor = .stopped ∧ s.tqs.permit = .stop)

section
variable {s t : State}

theorem conveyorStill_of_same (he : t.eStop = s.eStop) (hv : t.tqs.conveyor = s.tqs.conveyor) (hc : t.tqs.cmd = s.tqs.cmd)
    (hp : t.tqs.permit = s.tqs.permit) (h : s.conveyorStill) : t.conveyorStill := by
  unfold State.conveyorStill at h ⊢
  rwa [he, hv, hc, hp]

theorem conveyorStill_of_tqs (he : t.eStop = s.eStop) (ht : t.tqs = s.tqs) (h : s.conveyorStill) : t.conveyorStill :=
  conveyorStill_of_same he (by rw [ht]) (by rw [ht]) (by rw [ht]) h

theorem queueReport_conveyorStill (k : ReportKind) (h : s.conveyorStill) : (queueReport k s).conveyorStill :=
  conveyorStill_of_tqs (by simp) (by simp) h

/-- A conveyor that is not STOPPED shows a released line (R176). -/
theorem released_of_moving (h : s.conveyorStill) (on : s.tqs.conveyor ≠ .stopped) : s.eStop = false := by
  obtain ⟨-, stopped⟩ := h
  exact Bool.not_eq_true _ ▸ fun asserted => on (stopped asserted).1

theorem formPermit_conveyorStill (h : s.conveyorStill) : (formPermit s).conveyorStill := by
  obtain ⟨cmd, stopped⟩ := h
  unfold State.conveyorStill
  rw [formPermit_tqs]
  exact ⟨cmd, fun asserted => ⟨(stopped (by simpa using asserted)).1, (permitOf_eStop (by simpa using asserted)).1⟩⟩

/-- The permit formed after changes that leave the conveyor. -/
theorem formPermit_conveyorStill_of (he : t.eStop = s.eStop) (ht : t.tqs = s.tqs) (h : s.conveyorStill) :
    (formPermit t).conveyorStill := formPermit_conveyorStill (conveyorStill_of_tqs he ht h)

/-- On a released line the conveyor may enter a state, with command 0 where it stands (R166). -/
theorem enterConveyor_conveyorStill {v : Conveyor} {cmd : Int} (released : s.eStop = false)
    (idle : v ≠ .running → v ≠ .topping → cmd = 0) : (enterConveyor v cmd s).conveyorStill := by
  unfold State.conveyorStill
  rw [enterConveyor_tqs]
  exact ⟨idle, fun asserted => by simp [released] at asserted⟩

theorem stopConveyor_conveyorStill (h : s.conveyorStill) : (stopConveyor s).conveyorStill := by
  obtain ⟨-, stopped⟩ := h
  unfold State.conveyorStill
  rw [stopConveyor_tqs]
  exact ⟨fun _ _ => rfl, fun asserted => ⟨rfl, (stopped (by simpa using asserted)).2⟩⟩

theorem toppingTest_conveyorStill (h : s.conveyorStill) : (toppingTest s).conveyorStill := by
  obtain same | ⟨running, -, moved⟩ := toppingTest_cases s
  · rwa [same]
  · rw [moved]
    exact enterConveyor_conveyorStill (released_of_moving h (by simp [running])) (fun _ topping => absurd rfl topping)

theorem handListChange_conveyorStill (h : s.conveyorStill) : (handListChange s).conveyorStill :=
  formPermit_conveyorStill (toppingTest_conveyorStill h)

theorem setHead_conveyorStill (f : Truck → Truck) (h : s.conveyorStill) : (setHead f s).conveyorStill := by
  unfold setHead
  split <;> exact h

theorem enterRunning_conveyorStill (released : s.eStop = false) : (enterRunning s).conveyorStill := by
  unfold enterRunning
  exact toppingTest_conveyorStill (enterConveyor_conveyorStill (by simpa using released) (fun running => absurd rfl running))

theorem reformDisposition_conveyorStill (h : s.conveyorStill) : (reformDisposition s).conveyorStill := by
  unfold reformDisposition
  dsimp only
  split
  · exact conveyorStill_of_tqs (by simp) (by simp) h
  · exact formPermit_conveyorStill_of (by simp) (by simp) h

/-- The disposition formed again after changes that leave the conveyor. -/
theorem reformDisposition_conveyorStill_of (he : t.eStop = s.eStop) (ht : t.tqs = s.tqs) (h : s.conveyorStill) :
    (reformDisposition t).conveyorStill := reformDisposition_conveyorStill (conveyorStill_of_tqs he ht h)

end

/-! ### The belt and the trucks -/

section
variable {s : State}

theorem deliver_conveyorStill (n : Nat) (h : s.conveyorStill) : (deliver n s).conveyorStill :=
  setHead_conveyorStill _ h

theorem spillParcel_conveyorStill (q : Parcel) (h : s.conveyorStill) : (spillParcel q s).conveyorStill :=
  conveyorStill_of_tqs (by simp) (by simp) h

/-- The full head recorded and counted (R151). -/
def recordFull (s : State) : State :=
  match s.head with
  | some t => { s with tqs := { s.tqs with lastFull := some ⟨t.id, t.target, t.fill⟩, fullCount := wrapInc s.tqs.fullCount } }
  | none => s

/-- The full head as it is reported, before a running conveyor enters HOLD (R151). -/
def fullReported (s : State) : State := queueReport .truckFull (recordFull (setHead (fun t => { t with state := .full }) s))

theorem headFull_eq (s : State) : headFull s =
    if (fullReported s).tqs.conveyor = .running ∨ (fullReported s).tqs.conveyor = .topping then
      enterConveyor .hold 0 (fullReported s) else fullReported s := rfl

theorem fullReported_conveyorStill (h : s.conveyorStill) : (fullReported s).conveyorStill := by
  have full := setHead_conveyorStill (fun t => { t with state := .full }) h
  refine queueReport_conveyorStill .truckFull ?_
  unfold recordFull
  split
  · exact full
  · exact full

theorem headFull_conveyorStill (h : s.conveyorStill) : (headFull s).conveyorStill := by
  have reported := fullReported_conveyorStill h
  rw [headFull_eq]
  split
  next moving =>
    refine enterConveyor_conveyorStill (released_of_moving reported fun stopped => ?_) (fun _ _ => rfl)
    rcases moving with e | e <;> exact absurd (stopped.symm.trans e) (by decide)
  next => exact reported

theorem dischargePass_conveyorStill (lb : Nat) (ps : List Parcel) (h : s.conveyorStill) :
    (dischargePass lb ps s).2.conveyorStill := by
  induction ps generalizing s with
  | nil => exact h
  | cons q rest ih =>
    unfold dischargePass
    (repeat' split)
    · exact h
    · exact ih (spillParcel_conveyorStill q h)
    · exact ih (deliver_conveyorStill q.vol h)
    · exact headFull_conveyorStill (deliver_conveyorStill q.vol h)
    · exact headFull_conveyorStill (deliver_conveyorStill _ h)
    · exact ih (spillParcel_conveyorStill q h)

theorem beltStep_conveyorStill (h : s.conveyorStill) : (beltStep s).conveyorStill := by
  unfold beltStep
  dsimp only
  (repeat' split)
  · exact h
  · exact h
  · exact handListChange_conveyorStill (dischargePass_conveyorStill _ _ h)

theorem volumeStep_conveyorStill (h : s.conveyorStill) : (volumeStep s).conveyorStill := by
  unfold volumeStep
  dsimp only
  split
  · exact h
  · split
    · exact h
    · unfold routeVolume
      split
      · exact handListChange_conveyorStill (conveyorStill_of_tqs (by simp) (by simp) h)
      · exact h

theorem headInPosition_conveyorStill (h : s.conveyorStill) : (headInPosition s).conveyorStill := by
  have placed := setHead_conveyorStill (fun t => { t with state := .inPosition }) h
  unfold headInPosition
  dsimp only
  split
  next waiting =>
    exact formPermit_conveyorStill (enterRunning_conveyorStill (released_of_moving placed fun stopped =>
      absurd (stopped.symm.trans waiting) (by decide)))
  next => exact placed

theorem removeHead_conveyorStill (h : s.conveyorStill) : (removeHead s).conveyorStill := by
  have waits (on : s.tqs.conveyor ≠ .stopped) :
      (formPermit (enterConveyor .waiting 0 { s with tqs := { s.tqs with trucks := s.tqs.trucks.tail } })).conveyorStill :=
    formPermit_conveyorStill (enterConveyor_conveyorStill (s := { s with tqs := _ }) (released_of_moving h on) (fun _ _ => rfl))
  unfold removeHead
  dsimp only
  split
  next running => exact waits (by rw [running]; decide)
  next topping => exact waits (by rw [topping]; decide)
  next hold => exact waits (by rw [hold]; decide)
  next => exact h
  next => exact h

theorem startConveyor_conveyorStill (released : s.eStop = false) : (startConveyor s).conveyorStill := by
  unfold startConveyor
  refine formPermit_conveyorStill ?_
  split
  · exact enterRunning_conveyorStill released
  · exact enterConveyor_conveyorStill released (fun _ _ => rfl)

theorem keepStall_conveyorStill (h : s.conveyorStill) : (keepStall s).conveyorStill := by
  unfold keepStall
  (repeat' split)
  · exact formPermit_conveyorStill (stopConveyor_conveyorStill (conveyorStill_of_tqs (by simp) (by simp) h))
  · exact h
  · exact h

theorem formCommand_conveyorStill (h : s.conveyorStill) : (formCommand s).conveyorStill := by
  obtain ⟨-, stopped⟩ := h
  unfold formCommand
  split
  next running => exact ⟨fun moved => absurd running moved, stopped⟩
  next topping => exact ⟨fun _ moved => absurd topping moved, stopped⟩
  all_goals exact ⟨fun _ _ => rfl, stopped⟩

theorem travelPulse_conveyorStill (forward : Bool) (h : s.conveyorStill) : (travelPulse forward s).conveyorStill := by
  obtain ⟨-, e⟩ | ⟨-, -, e⟩ | ⟨-, -, e⟩ := travelPulse_cases forward s <;> rw [e]
  · exact conveyorStill_of_tqs (by simp) (by simp) h
  · exact conveyorStill_of_tqs (by simp) (by simp) h
  · exact reformDisposition_conveyorStill_of (by simp [pulseCounted]) (by simp [pulseCounted]) h

theorem spliceStep_conveyorStill (h : s.conveyorStill) : (spliceStep s).conveyorStill := by
  unfold spliceStep
  split
  next =>
    unfold takeSpliceStep
    dsimp only
    split
    · exact conveyorStill_of_tqs (by simp) (by simp) h
    · exact reformDisposition_conveyorStill h
  next => exact h

theorem spliceFinalStep_conveyorStill (h : s.conveyorStill) : (spliceFinalStep s).conveyorStill := by
  unfold spliceFinalStep
  (repeat' split)
  · exact conveyorStill_of_tqs (by simp) (by simp) h
  · exact queueReport_conveyorStill .splice (reformDisposition_conveyorStill h)
  · exact h

/-- Of the conveyor and the permit a cycle touches the permit of step 2 alone (R175). -/
theorem loopCycle_conveyorStill (x : Side) (plate leg slope : Nat) (h : s.conveyorStill) :
    (loopCycle x plate leg slope s).conveyorStill := by
  have before : (measured x plate leg slope s).conveyorStill := by
    refine conveyorStill_of_tqs ?_ ?_ h <;> rw [measured_rest]
  obtain resting | active := resting_or_active (s.ch x)
  · rw [loopCycle_resting resting]
    exact conveyorStill_of_tqs (by simp) (by simp) before
  · rw [loopCycle_active active]
    refine conveyorStill_of_tqs (s := sourced x (measured x plate leg slope s)) (by simp [sourced])
      (activeCycle_sourced_tqs x s.drum _) ?_
    rw [sourced, applySource_eq]
    refine conveyorStill_of_tqs (by simp) (setFlagIf_tqs _ _ _) ?_
    split
    · exact conveyorStill_of_tqs (by simp) (by simp) before
    · exact formPermit_conveyorStill_of (by simp) (by simp) before

/-- The owner's act at a write reaches TQS by the permit, the disposition and the topping test alone (R181, R182). -/
theorem ownerAct_conveyorStill (id : Nat) (h : s.conveyorStill) : (ownerAct id s).conveyorStill := by
  have pair : (pairComplete s).conveyorStill := by
    unfold pairComplete
    split
    · exact formPermit_conveyorStill h
    · exact h
  have topping : (writeLt s).conveyorStill := by
    unfold writeLt
    dsimp only
    split
    · exact toppingTest_conveyorStill h
    · exact formPermit_conveyorStill (toppingTest_conveyorStill h)
  unfold ownerAct
  split
  case h_1 | h_8 => exact reformDisposition_conveyorStill h
  case h_2 | h_3 => exact pair
  case h_10 => exact topping
  case h_11 => exact formPermit_conveyorStill h
  all_goals
    refine conveyorStill_of_tqs ?_ ?_ h <;>
      simp [clampDepths, clampSlopes, clampTrims, writeRefMode, apply_ite State.tqs, apply_ite State.eStop]

theorem warmRestart_conveyorStill (s : State) : (warmRestart s).conveyorStill := by
  unfold warmRestart
  unfold State.conveyorStill
  rw [formPermit_tqs]
  exact ⟨fun _ _ => rfl, fun asserted => ⟨rfl, (permitOf_eStop (by simpa using asserted)).1⟩⟩

theorem assertEStop_conveyorStill (h : s.conveyorStill) : (assertEStop s).conveyorStill := by
  obtain ⟨cmd, -⟩ := h
  unfold State.conveyorStill
  rw [assertEStop_tqs]
  refine ⟨fun _ _ => ?_, fun _ => ⟨rfl, rfl⟩⟩
  dsimp only
  split
  next stopped => exact cmd (by rw [stopped]; decide) (by rw [stopped]; decide)
  next => rfl

theorem releaseEStop_conveyorStill (h : s.conveyorStill) : (releaseEStop s).conveyorStill := by
  obtain ⟨cmd, -⟩ := h
  have released : (setEStop false s).conveyorStill := ⟨cmd, fun asserted => absurd asserted (by simp [setEStop])⟩
  exact formPermit_conveyorStill_of (by simp [reformAfterEStop]) (by simp [reformAfterEStop]) released

theorem powerOn_conveyorStill (s : State) : (powerOn s).conveyorStill := by
  unfold powerOn State.conveyorStill
  rw [formPermit_tqs]
  simp only [queueReport_frame]
  exact ⟨fun _ _ => rfl, fun asserted => ⟨rfl, (permitOf_eStop (by simpa using asserted)).1⟩⟩

theorem jogExpiry_conveyorStill (x : Side) (h : s.conveyorStill) : (jogExpiry x s).conveyorStill := by
  unfold jogExpiry
  split
  · exact formPermit_conveyorStill_of (by simp) (by simp) h
  · exact h

theorem linkSilence_conveyorStill (h : s.conveyorStill) : (linkSilence s).conveyorStill := by
  unfold linkSilence
  split
  · exact formPermit_conveyorStill_of (by simp) (by simp) h
  · exact h

/-! ### Every request, every command and every step -/

theorem serveSetParam_conveyorStill (item : Nat) (v : Int) (h : s.conveyorStill) :
    (serveSetParam item v s).1.conveyorStill := by
  unfold serveSetParam
  split
  next => exact h
  next row _ =>
    (repeat' split)
    · exact h
    · exact conveyorStill_of_tqs (by simp [refuseLocked, refuse]) (by simp [refuseLocked, refuse]) h
    · exact h
    · exact h
    · exact ownerAct_conveyorStill row.id h

theorem serveTruckAdd_conveyorStill (id target : Nat) (h : s.conveyorStill) : (serveTruckAdd id target s).1.conveyorStill := by
  unfold serveTruckAdd
  (repeat' split) <;> exact h

theorem serveTruckInPosition_conveyorStill (id : Nat) (h : s.conveyorStill) :
    (serveTruckInPosition id s).1.conveyorStill := by
  unfold serveTruckInPosition
  (repeat' split)
  · exact h
  · exact h
  · exact headInPosition_conveyorStill h
  · exact h
  · exact h

theorem serveTruckAway_conveyorStill (id : Nat) (h : s.conveyorStill) : (serveTruckAway id s).1.conveyorStill := by
  unfold serveTruckAway
  (repeat' split)
  · exact h
  · exact h
  · exact removeHead_conveyorStill h
  · exact h
  · exact h

theorem serveTruckRemove_conveyorStill (id : Nat) (h : s.conveyorStill) : (serveTruckRemove id s).1.conveyorStill := by
  unfold serveTruckRemove
  (repeat' split) <;> exact h

/-- CONVEYOR_START is refused under E-stop (R167). -/
theorem serveConveyorStart_conveyorStill (h : s.conveyorStill) : (serveConveyorStart s).1.conveyorStill := by
  unfold serveConveyorStart
  split
  next => exact h
  next released =>
    (repeat' split)
    · exact h
    · exact h
    · exact startConveyor_conveyorStill (eq_false_of_ne_true released)

theorem serveConveyorStop_conveyorStill (h : s.conveyorStill) : (serveConveyorStop s).1.conveyorStill := by
  unfold serveConveyorStop
  split
  · exact h
  · exact formPermit_conveyorStill (stopConveyor_conveyorStill h)

theorem serve_conveyorStill (r : Request) (h : s.conveyorStill) : (serve r s).1.conveyorStill := by
  cases r
  case setDatum c =>
    simp only [serve, serveSetDatum]
    (repeat' split)
    · exact h
    · exact h
    · exact h
    · exact reformDisposition_conveyorStill_of rfl rfl h
  case planClear =>
    simp only [serve, servePlanClear]
    (repeat' split)
    · exact h
    · exact h
    · exact reformDisposition_conveyorStill_of rfl rfl h
  case selectTarget source =>
    simp only [serve, serveSelectTarget]
    split
    · exact h
    · refine formPermit_conveyorStill_of ?_ ?_ h <;> split <;> simp
  case engage side =>
    simp only [serve, serveEngage]
    (repeat' split)
    · exact h
    · exact h
    · exact h
    · exact h
    · exact h
    · exact formPermit_conveyorStill_of (by simp) (by simp) h
  case disengage side =>
    simp only [serve, serveDisengage]
    split
    · exact h
    · exact formPermit_conveyorStill_of (by simp) (by simp) h
  case jog side valve duration =>
    simp only [serve, serveJog]
    (repeat' split)
    · exact h
    · exact h
    · exact h
    · exact h
    · exact formPermit_conveyorStill_of (by simp) (by simp) h
  case truckAdd id target => exact serveTruckAdd_conveyorStill id target h
  case truckInPosition id => exact serveTruckInPosition_conveyorStill id h
  case truckAway id => exact serveTruckAway_conveyorStill id h
  case truckRemove id => exact serveTruckRemove_conveyorStill id h
  case conveyorStart => exact serveConveyorStart_conveyorStill h
  case conveyorStop => exact serveConveyorStop_conveyorStill h
  case setParam item v => exact serveSetParam_conveyorStill item v h
  case restart => exact warmRestart_conveyorStill s
  all_goals exact conveyorStill_of_tqs (by simp [serve, refuse]) (by simp [serve, refuse]) h

end

theorem conveyorStill_linkKeeps : LinkKeeps State.conveyorStill where
  clp _ _ h := h
  permit h := formPermit_conveyorStill h
  serve r _ h := serve_conveyorStill r h

/-- Every event row keeps the conveyor still under E-stop. -/
theorem exec_event_conveyorStill (i : Instr) (s : State) (hq : queuedOf i = none) (h : s.conveyorStill) :
    ∃ t, exec i s = .next t ∧ t.conveyorStill := by
  have k := conveyorStill_linkKeeps
  have framed {u : State} (he : u.eStop = s.eStop) (ht : u.tqs = s.tqs) : (startTx u).conveyorStill :=
    k.startTx_kept (conveyorStill_of_tqs he ht h)
  cases i <;> cases hq
  case powerOnReset => exact ⟨_, rfl, powerOn_conveyorStill s⟩
  case eStopAsserted => exact ⟨_, rfl, k.startTx_kept (assertEStop_conveyorStill h)⟩
  case eStopReleased => exact ⟨_, rfl, k.startTx_kept (releaseEStop_conveyorStill h)⟩
  case qualifiedTravelPulse forward => exact ⟨_, rfl, k.startTx_kept (travelPulse_conveyorStill forward h)⟩
  case speedInterval =>
    exact ⟨_, rfl, k.startTx_kept (formCommand_conveyorStill (keepStall_conveyorStill (s := measureSpeeds s) h))⟩
  case volumeStep => exact ⟨_, rfl, k.startTx_kept (volumeStep_conveyorStill h)⟩
  case beltStep => exact ⟨_, rfl, k.startTx_kept (beltStep_conveyorStill h)⟩
  case loopCycle x plate leg slope => exact ⟨_, rfl, k.startTx_kept (loopCycle_conveyorStill x plate leg slope h)⟩
  case jogExpiry x => exact ⟨_, rfl, k.startTx_kept (jogExpiry_conveyorStill x h)⟩
  case spliceStep => exact ⟨_, rfl, k.startTx_kept (spliceStep_conveyorStill h)⟩
  case spliceFinalStep => exact ⟨_, rfl, k.startTx_kept (spliceFinalStep_conveyorStill h)⟩
  case linkSilence => exact ⟨_, rfl, k.startTx_kept (linkSilence_conveyorStill h)⟩
  case validFrame bytes => exact ⟨_, rfl, k.startTx_kept (k.linkBytes_kept bytes h)⟩
  case frameStart => exact ⟨_, rfl, k.startTx_kept (k.linkByte_kept startByte h)⟩
  case frameLengthError b => exact ⟨_, rfl, k.startTx_kept (k.linkByte_kept b h)⟩
  case transmitEnd => exact ⟨_, rfl, k.pump_kept (k.clp _ h)⟩
  case gapDiscard =>
    refine ⟨_, rfl, framed ?_ ?_⟩ <;> unfold linkGap <;> split <;> rfl
  all_goals exact ⟨_, rfl, framed (by simp) (by simp)⟩

theorem step_conveyorStill {s t : State} (h : s.conveyorStill) (e : step s = .next t) : t.conveyorStill :=
  conveyorStill_linkKeeps.step_kept exec_event_conveyorStill (fun _ _ h => h) (fun h => h) h e

end Sys2Proof.Machine
end

section
/-! The channels and the lift causes under E-stop (R44, R51, R90): an OFF channel has valve 0, and under E-stop both channels are OFF
and the lift-cause set is empty, at every step. -/

namespace Sys2Proof.Machine

/-! ### A still channel -/

/-- An OFF channel has valve 0, and under E-stop the channel is OFF (R44, R51). -/
def Channel.still (stopped : Bool) (c : Channel) : Prop :=
  (c.state = .off → c.valve = 0) ∧ (stopped = true → c.state = .off)

section
variable {stopped : Bool} {c : Channel}

theorem toOff_still (stopped : Bool) (c : Channel) : c.toOff.still stopped := ⟨fun _ => rfl, fun _ => rfl⟩

/-- A channel that is not OFF is still on a released line. -/
theorem still_of_on (released : stopped = false) (on : c.state ≠ .off) : c.still stopped :=
  ⟨fun off => absurd off on, fun asserted => by simp [released] at asserted⟩

/-- A channel that is not OFF shows a released line (R51). -/
theorem released_of_on (h : c.still stopped) (on : c.state ≠ .off) : stopped = false := by
  obtain ⟨-, off⟩ := h
  exact eq_false_of_ne_true fun asserted => on (off asserted)

theorem switchedOff_still (h : c.still stopped) : c.switchedOff.still stopped := by
  unfold Channel.switchedOff
  split
  · exact h
  · exact toOff_still stopped c

theorem engaged_still (e : Envelope) (released : stopped = false) : (c.engaged e).still stopped := by
  refine still_of_on released ?_
  unfold Channel.engaged
  cases state : c.state <;> simp [state]

theorem linkHeld_still (h : c.still stopped) : c.linkHeld.still stopped := by
  unfold Channel.linkHeld
  cases state : c.state with
  | off => exact h
  | jog => exact toOff_still stopped c
  | auto => exact still_of_on (released_of_on h (by simp [state])) (by simp)
  | held => exact still_of_on (released_of_on h (by simp [state])) (by simp)

theorem tick_still (h : c.still stopped) : c.tick.still stopped := by
  unfold Channel.tick
  split
  · exact h
  · exact h

/-- Step 2 of a cycle leaves a channel in AUTO or HELD (R49). -/
theorem judged_active (valid : Bool) (h : c.state = .auto ∨ c.state = .held) :
    (c.judged valid).state = .auto ∨ (c.judged valid).state = .held := by
  unfold Channel.judged
  rcases h with state | state <;> rw [state] <;> cases valid <;> cases c.holdSource <;> cases c.holdLink <;> simp [state]

end

/-! ### Both channels and the lift-cause set -/

/-- The part of the E-stop invariant that the channels keep (R44, R51). -/
def State.channelsStill (s : State) : Prop := ∀ x, (s.ch x).still s.eStop

/-- The part of the E-stop invariant that MLC keeps (R90). -/
def State.liftsEmpty (s : State) : Prop := s.eStop = true → s.mlc.causes = .empty

section
variable {s t : State}

theorem channelsStill_of_each (he : t.eStop = s.eStop) (each : ∀ x, (s.ch x).still s.eStop → (t.ch x).still s.eStop)
    (h : s.channelsStill) : t.channelsStill := fun x => he ▸ each x (h x)

theorem channelsStill_of_kept (he : t.eStop = s.eStop) (hl : t.chL = s.chL) (hr : t.chR = s.chR) (h : s.channelsStill) :
    t.channelsStill :=
  channelsStill_of_each he (fun x still => by cases x <;> simpa only [ch_L, ch_R, hl, hr] using still) h

theorem setCh_channelsStill {x : Side} {c : Channel} (still : (s.ch x).still s.eStop → c.still s.eStop) (h : s.channelsStill) :
    (s.setCh x c).channelsStill := by
  refine channelsStill_of_each (by simp) (fun y hy => ?_) h
  by_cases same : y = x
  · subst same
    rw [setCh_ch]
    exact still hy
  · obtain rfl : y = x.other := by cases x <;> cases y <;> simp_all [Side.other]
    rw [setCh_ch_other]
    exact hy

theorem formPermit_channelsStill (h : s.channelsStill) : (formPermit s).channelsStill :=
  channelsStill_of_kept (by simp) (by simp) (by simp) h

theorem enterOff_channelsStill (x : Side) (h : s.channelsStill) : (enterOff x s).channelsStill := by
  refine channelsStill_of_each (by simp) (fun y still => ?_) h
  rw [enterOff_ch_eq]
  split
  · exact switchedOff_still still
  · exact still

/-- Under E-stop no channel is in AUTO (R51). -/
theorem anyAuto_of_stopped (h : s.channelsStill) (stopped : s.eStop = true) : s.anyAuto = false := by
  have off (x : Side) : (s.ch x).state = .off := (h x).2 stopped
  rw [← Bool.not_eq_true, anyAuto_iff, ← ch_L, ← ch_R, off, off]
  decide

theorem liftsEmpty_of_causes (he : t.eStop = s.eStop) (hc : t.mlc.causes = s.mlc.causes) (h : s.liftsEmpty) : t.liftsEmpty := by
  unfold State.liftsEmpty at h ⊢
  rwa [he, hc]

theorem liftsEmpty_of_mlc (he : t.eStop = s.eStop) (hm : t.mlc = s.mlc) (h : s.liftsEmpty) : t.liftsEmpty :=
  liftsEmpty_of_causes he (by rw [hm]) h

theorem setCauses_liftsEmpty {c : LiftCauses} (empty : s.eStop = true → c = .empty) : (setCauses c s).liftsEmpty := by
  intro stopped
  rw [setCauses_causes]
  exact empty (by simpa using stopped)

theorem reformPlan_liftsEmpty (h : s.liftsEmpty) : (reformPlan s).liftsEmpty :=
  setCauses_liftsEmpty fun stopped => by simp [State.planCause, stopped, h stopped, LiftCauses.empty]

theorem reformWindow_liftsEmpty (h : s.liftsEmpty) : (reformWindow s).liftsEmpty :=
  setCauses_liftsEmpty fun stopped => by simp [State.windowCause, stopped, h stopped, LiftCauses.empty]

theorem dropManual_liftsEmpty (h : s.liftsEmpty) : (dropManual s).liftsEmpty :=
  setCauses_liftsEmpty fun stopped => by simp [h stopped, LiftCauses.empty]

theorem formPermit_liftsEmpty (h : s.liftsEmpty) : (formPermit s).liftsEmpty :=
  liftsEmpty_of_mlc (by simp) (formPermit_mlc s) h

theorem queueReport_liftsEmpty (k : ReportKind) (h : s.liftsEmpty) : (queueReport k s).liftsEmpty :=
  liftsEmpty_of_mlc (by simp) (by simp) h

theorem reformDisposition_liftsEmpty (h : s.liftsEmpty) : (reformDisposition s).liftsEmpty := by
  unfold reformDisposition
  dsimp only
  split
  · exact h
  · exact formPermit_liftsEmpty (reformPlan_liftsEmpty (s := keepDisposition s) h)

theorem enterOff_liftsEmpty (x : Side) (h : s.liftsEmpty) : (enterOff x s).liftsEmpty := by
  intro stopped
  have empty := h (by simpa using stopped)
  rw [enterOff_mlc]
  split <;> simp [empty, LiftCauses.empty]

theorem disengage_liftsEmpty (sides : List Side) (h : s.liftsEmpty) :
    (sides.foldl (fun t x => enterOff x t) s).liftsEmpty := by
  induction sides generalizing s with
  | nil => exact h
  | cons x rest ih => exact ih (enterOff_liftsEmpty x h)

/-! ### The markers and the detector -/

theorem recordEvent_liftsEmpty (kind : MarkerEventKind) (k : Marker) (h : s.liftsEmpty) : (recordEvent kind k s).liftsEmpty := h

theorem insertNewMarker_liftsEmpty (m lead trail : Int) (origin : Origin) (h : s.liftsEmpty) :
    (insertNewMarker m lead trail origin s).1.liftsEmpty := h

theorem takeTrip_liftsEmpty (m : Int) (h : s.liftsEmpty) : (takeTrip m s).liftsEmpty := by
  unfold takeTrip
  split
  next k _ =>
    unfold extendMarker
    dsimp only
    split
    · exact h
    · exact queueReport_liftsEmpty _ (recordEvent_liftsEmpty _ _ (reformWindow_liftsEmpty (s := { s with mlc := _ }) h))
  next =>
    unfold createFromTrip
    split
    · exact queueReport_liftsEmpty _ (recordEvent_liftsEmpty _ _ (reformWindow_liftsEmpty
        (insertNewMarker_liftsEmpty m s.tun.autoLead s.tun.autoTrail .scanner h)))
    · exact queueReport_liftsEmpty _ (recordEvent_liftsEmpty _ _ (s := { s with mlc := _ }) h)

theorem moveDetecting_liftsEmpty (c : Int) (h : s.liftsEmpty) : (moveDetecting c s).liftsEmpty := by
  unfold moveDetecting tripDetector
  dsimp only
  (repeat' split)
  · exact takeTrip_liftsEmpty c (s := { s with chd := _ }) h
  · exact h
  · exact takeTrip_liftsEmpty _ (s := { s with chd := _ }) h
  · exact h
  · exact h

theorem enterLine_liftsEmpty (l : Line) (sigs : List (Option Nat)) (h : s.liftsEmpty) : (enterLine l sigs s).liftsEmpty :=
  liftsEmpty_of_mlc (by simp) (by simp) h

theorem handOver_liftsEmpty (l : Line) (sigs : List (Option Nat)) (h : s.liftsEmpty) : (handOver l sigs s).1.liftsEmpty := by
  unfold handOver
  split
  · exact liftsEmpty_of_mlc (by simp) (by simp) h
  · have followed : (checkContinuity l.scanAt
        { s with chd := { s.chd with condition := false, geometry := false } }).liftsEmpty :=
      liftsEmpty_of_mlc (by simp) (by simp) h
    dsimp only
    refine enterLine_liftsEmpty _ _ ?_
    split
    · exact moveDetecting_liftsEmpty _ followed
    · exact liftsEmpty_of_mlc (by simp) (by simp) followed

theorem lineCompletion_liftsEmpty (h : s.liftsEmpty) : (lineCompletion s).liftsEmpty := by
  unfold lineCompletion
  split
  next => exact h
  next l rest _ =>
    have detected (sigs : List (Option Nat)) : (detectLine l sigs s).1.liftsEmpty := by
      unfold detectLine
      split
      · exact handOver_liftsEmpty l sigs h
      · exact h
    refine liftsEmpty_of_mlc ?_ ?_ (detected ((reduceLine s.tun.pointMin s.chd.mask l.points).map (·.signature)))
    · simp [completeLine]
    · simp [completeLine]

/-! ### The events -/

theorem travelPulse_liftsEmpty (forward : Bool) (h : s.liftsEmpty) : (travelPulse forward s).liftsEmpty := by
  obtain ⟨-, e⟩ | ⟨-, -, e⟩ | ⟨-, -, e⟩ := travelPulse_cases forward s <;> rw [e]
  · exact liftsEmpty_of_mlc (by simp) (by simp) h
  · exact liftsEmpty_of_mlc (by simp) (by simp) h
  · exact reformDisposition_liftsEmpty (liftsEmpty_of_mlc (by simp [pulseCounted]) (by simp [pulseCounted]) h)

theorem spliceStep_liftsEmpty (h : s.liftsEmpty) : (spliceStep s).liftsEmpty := by
  unfold spliceStep
  split
  next =>
    unfold takeSpliceStep
    dsimp only
    split
    · exact liftsEmpty_of_mlc (by simp) (by simp) h
    · exact reformDisposition_liftsEmpty (s := { s with plt := _ }) h
  next => exact h

theorem spliceFinalStep_liftsEmpty (h : s.liftsEmpty) : (spliceFinalStep s).liftsEmpty := by
  unfold spliceFinalStep
  (repeat' split)
  · exact liftsEmpty_of_mlc (by simp) (by simp) h
  · exact queueReport_liftsEmpty .splice (reformDisposition_liftsEmpty (s := { s with plt := _ }) h)
  · exact h

theorem loopCycle_liftsEmpty (x : Side) (plate leg slope : Nat) (h : s.liftsEmpty) :
    (loopCycle x plate leg slope s).liftsEmpty := by
  intro stopped
  have empty := h (by simpa using stopped)
  have line : s.eStop = true := by simpa using stopped
  rw [(loopCycle_keeps x plate leg slope s).mlc, measured_rest]
  cases x
  · exact (congrArg Mlc.causes (evaluateMarkers_mlc s.drum s)).trans (by simp [line, empty, LiftCauses.empty])
  · exact empty

theorem jogExpiry_liftsEmpty (x : Side) (h : s.liftsEmpty) : (jogExpiry x s).liftsEmpty := by
  unfold jogExpiry
  split
  · exact formPermit_liftsEmpty (enterOff_liftsEmpty x h)
  · exact h

theorem linkSilence_liftsEmpty (h : s.liftsEmpty) : (linkSilence s).liftsEmpty := by
  unfold linkSilence
  split
  · exact formPermit_liftsEmpty (liftsEmpty_of_mlc (by simp [linkHold_eq]) (by simp [linkHold_eq]) h)
  · exact h

theorem ownerAct_liftsEmpty (id : Nat) (h : s.liftsEmpty) : (ownerAct id s).liftsEmpty := by
  unfold ownerAct
  split
  case h_1 | h_8 => exact reformDisposition_liftsEmpty h
  case h_4 | h_5 => exact h
  all_goals
    refine liftsEmpty_of_mlc ?_ ?_ h <;>
      simp [pairComplete, clampSlopes, clampTrims, writeRefMode, writeLt, apply_ite State.mlc, apply_ite State.eStop]

theorem loopCycle_channelsStill (x : Side) (plate leg slope : Nat) (h : s.channelsStill) :
    (loopCycle x plate leg slope s).channelsStill := by
  refine channelsStill_of_each (by simp) (fun y still => ?_) h
  by_cases same : y = x
  · subst same
    obtain resting | active := resting_or_active (s.ch y)
    · rw [loopCycle_resting resting, restingCycle_ch, measured_ch]
      exact still
    · have on : (s.ch y).state ≠ .off := by rcases active with e | e <;> simp [e]
      have kept : ((measured y plate leg slope s).ch y).state = (s.ch y).state := by rw [measured_ch]
      have after := judged_active ((measured y plate leg slope s).cycleValid y) (kept ▸ active)
      rw [loopCycle_active active, activeCycle_ch]
      refine still_of_on (released_of_on still on) fun off => ?_
      rcases after with e | e <;> exact absurd (e.symm.trans off) (by decide)
  · obtain rfl : y = x.other := by cases x <;> cases y <;> simp_all [Side.other]
    rw [(loopCycle_keeps x plate leg slope s).other, measured_other]
    exact still

theorem ownerAct_channelsStill (id : Nat) (h : s.channelsStill) : (ownerAct id s).channelsStill := by
  unfold ownerAct
  split
  case h_4 | h_5 => exact channelsStill_of_each (s := s) rfl (fun x still => by cases x <;> exact still) h
  case h_6 | h_7 => exact channelsStill_of_each (s := s) rfl (fun x still => by cases x <;> exact still) h
  all_goals
    refine channelsStill_of_kept ?_ ?_ ?_ h <;>
      simp [pairComplete, writeRefMode, writeLt, apply_ite State.eStop, apply_ite State.chL, apply_ite State.chR]

/-! ### Every request -/

/-- LIFT is refused while no channel is in AUTO, so under E-stop (R87). -/
theorem serveLift_liftsEmpty (channels : s.channelsStill) (h : s.liftsEmpty) : (serveLift s).1.liftsEmpty := by
  unfold serveLift
  split
  next auto => exact setCauses_liftsEmpty fun stopped => by simp [anyAuto_of_stopped channels stopped] at auto
  next => exact h

theorem serveReturn_liftsEmpty (h : s.liftsEmpty) : (serveReturn s).1.liftsEmpty := by
  unfold serveReturn
  (repeat' split)
  · exact h
  · exact h
  · exact dropManual_liftsEmpty h

theorem serveAddMarker_liftsEmpty (m : Int) (lead trail : Nat) (h : s.liftsEmpty) :
    (serveAddMarker m lead trail s).1.liftsEmpty := by
  have added := recordEvent_liftsEmpty .added (insertNewMarker m lead trail .machine s).2
    (reformWindow_liftsEmpty (insertNewMarker_liftsEmpty m lead trail .machine h))
  unfold serveAddMarker
  split
  · exact h
  · split
    · exact h
    · split
      · exact h
      · exact added

theorem serveRemoveMarker_liftsEmpty (id : Nat) (h : s.liftsEmpty) : (serveRemoveMarker id s).1.liftsEmpty := by
  unfold serveRemoveMarker
  (repeat' split) <;> exact h

theorem serveSetParam_liftsEmpty (item : Nat) (v : Int) (h : s.liftsEmpty) : (serveSetParam item v s).1.liftsEmpty := by
  unfold serveSetParam
  split
  next => exact h
  next row _ =>
    (repeat' split)
    · exact h
    · exact liftsEmpty_of_mlc (by simp [refuseLocked, refuse]) (by simp [refuseLocked, refuse]) h
    · exact h
    · exact h
    · exact ownerAct_liftsEmpty row.id (s := { s with mpr := _ }) h

theorem warmRestart_liftsEmpty (s : State) : (warmRestart s).liftsEmpty := by
  intro stopped
  have line : s.eStop = true := by simpa using stopped
  rw [warmRestart_mlc]
  simp [line, LiftCauses.empty]

theorem serve_liftsEmpty (r : Request) (channels : s.channelsStill) (h : s.liftsEmpty) : (serve r s).1.liftsEmpty := by
  cases r
  case setDatum c =>
    simp only [serve, serveSetDatum]
    (repeat' split)
    · exact h
    · exact h
    · exact h
    · exact reformDisposition_liftsEmpty (s := { s with trc := _ }) h
  case planClear =>
    simp only [serve, servePlanClear]
    (repeat' split)
    · exact h
    · exact h
    · exact reformDisposition_liftsEmpty (s := { s with plt := _ }) h
  case addMarker m lead trail => exact serveAddMarker_liftsEmpty m lead trail h
  case removeMarker id => exact serveRemoveMarker_liftsEmpty id h
  case lift => exact serveLift_liftsEmpty channels h
  case returnDrum => exact serveReturn_liftsEmpty h
  case selectTarget source =>
    simp only [serve, serveSelectTarget]
    split
    · exact h
    · refine formPermit_liftsEmpty (reformPlan_liftsEmpty ?_)
      split <;> exact h
  case engage side =>
    simp only [serve, serveEngage]
    (repeat' split)
    · exact h
    · exact h
    · exact h
    · exact h
    · exact h
    · exact liftsEmpty_of_mlc (by simp [accept]) (by simp [accept]) h
  case disengage side =>
    simp only [serve, serveDisengage]
    split
    · exact h
    · exact formPermit_liftsEmpty (disengage_liftsEmpty _ h)
  case setParam item v => exact serveSetParam_liftsEmpty item v h
  case restart => exact warmRestart_liftsEmpty s
  all_goals exact liftsEmpty_of_mlc (by simp [serve, refuse]) (by simp [serve, refuse]) h

theorem serveEngage_channelsStill (side : Nat) (h : s.channelsStill) : (serveEngage side s).1.channelsStill := by
  unfold serveEngage
  split
  next => exact h
  next sides named =>
    split
    next => exact h
    next released =>
      (repeat' split)
      · exact h
      · exact h
      · exact h
      · refine formPermit_channelsStill (channelsStill_of_each (by simp) (fun x still => ?_) h)
        rw [engaged_ch s named]
        split
        · exact engaged_still _ (eq_false_of_ne_true released)
        · exact still

theorem serveDisengage_channelsStill (side : Nat) (h : s.channelsStill) : (serveDisengage side s).1.channelsStill := by
  unfold serveDisengage
  split
  next => exact h
  next sides named =>
    refine formPermit_channelsStill (channelsStill_of_each (by simp) (fun x still => ?_) h)
    rw [disengage_ch s named]
    split
    · exact switchedOff_still still
    · exact still

theorem serveJog_channelsStill (side : Nat) (valve : Int) (duration : Nat) (h : s.channelsStill) :
    (serveJog side valve duration s).1.channelsStill := by
  unfold serveJog
  split
  next => exact h
  next x _ =>
    split
    next => exact h
    next =>
      split
      next => exact h
      next released =>
        split
        next => exact h
        next =>
          refine formPermit_channelsStill (channelsStill_of_each (by simp) (fun y still => ?_) h)
          rw [changeChannel_ch_eq]
          split
          · exact still_of_on (eq_false_of_ne_true released) (by simp)
          · exact still

theorem serveSetParam_channelsStill (item : Nat) (v : Int) (h : s.channelsStill) :
    (serveSetParam item v s).1.channelsStill := by
  unfold serveSetParam
  split
  next => exact h
  next row _ =>
    (repeat' split)
    · exact h
    · exact channelsStill_of_kept (by simp [refuseLocked, refuse]) (by simp [refuseLocked, refuse])
        (by simp [refuseLocked, refuse]) h
    · exact h
    · exact h
    · exact ownerAct_channelsStill row.id
        (channelsStill_of_each (s := s) rfl (fun x still => by cases x <;> exact still) h)

theorem serve_channelsStill (r : Request) (h : s.channelsStill) : (serve r s).1.channelsStill := by
  cases r
  case engage side => exact serveEngage_channelsStill side h
  case disengage side => exact serveDisengage_channelsStill side h
  case jog side valve duration => exact serveJog_channelsStill side valve duration h
  case setPoint side mode depth slope =>
    simp only [serve, serveSetPoint]
    (repeat' split)
    · exact h
    · exact h
    · exact setCh_channelsStill (fun still => still) h
    · exact h
  case setTrim side trim =>
    simp only [serve, serveSetTrim]
    split
    · exact h
    · exact setCh_channelsStill (fun still => still) h
  case selectTarget source =>
    simp only [serve, serveSelectTarget]
    split
    · exact h
    next target _ =>
      refine channelsStill_of_each (by simp [accept]) (fun x still => ?_) h
      cases target <;> cases x <;> simpa [accept, selectTarget, Channel.still] using still
  case setParam item v => exact serveSetParam_channelsStill item v h
  case restart =>
    refine channelsStill_of_each (by simp [serve, serveRestart, accept]) (fun x _ => ?_) h
    exact (warmRestart_ch s x).symm ▸ toOff_still _ _
  all_goals exact channelsStill_of_kept (by simp [serve, refuse]) (by simp [serve, refuse]) (by simp [serve, refuse]) h

end

/-! ### Every command and every step -/

/-- Both channels and the lift-cause set are still: LIFT is refused by the channels (R87). -/
def State.liftsStill (s : State) : Prop := s.channelsStill ∧ s.liftsEmpty

theorem liftsStill_of_kept {s t : State} (he : t.eStop = s.eStop) (hl : t.chL = s.chL) (hr : t.chR = s.chR)
    (hm : t.mlc = s.mlc) (h : s.liftsStill) : t.liftsStill :=
  h.imp (channelsStill_of_kept he hl hr) (liftsEmpty_of_mlc he hm)

theorem liftsStill_linkKeeps : LinkKeeps State.liftsStill where
  clp _ _ h := liftsStill_of_kept rfl rfl rfl rfl h
  permit h := liftsStill_of_kept (by simp) (by simp) (by simp) (by simp) h
  serve r _ h := ⟨serve_channelsStill r h.1, serve_liftsEmpty r h.1 h.2⟩

theorem powerOn_liftsStill (s : State) : (powerOn s).liftsStill := by
  refine ⟨fun x => ?_, fun _ => ?_⟩
  · cases x <;> simp [powerOn] <;> exact ⟨fun _ => rfl, fun _ => rfl⟩
  · simp [powerOn]
    rfl

theorem assertEStop_liftsStill {s : State} (h : s.liftsStill) : (assertEStop s).liftsStill := by
  refine ⟨fun x => ?_, fun _ => by rw [assertEStop_mlc]⟩
  obtain ⟨valve, -⟩ := switchedOff_still (h.1 x)
  rw [assertEStop_ch]
  exact ⟨valve, fun _ => switchedOff_state _⟩

theorem releaseEStop_liftsStill {s : State} (h : s.liftsStill) : (releaseEStop s).liftsStill := by
  have released : (releaseEStop s).eStop = false := by simp [releaseEStop, reformAfterEStop, setEStop]
  refine ⟨fun x => ?_, fun stopped => absurd (released.symm.trans stopped) (by decide)⟩
  have kept : (releaseEStop s).ch x = s.ch x := by cases x <;> simp
  obtain ⟨valve, -⟩ := h.1 x
  rw [kept, released]
  exact ⟨valve, fun stopped => by cases stopped⟩

theorem jogExpiry_channelsStill (x : Side) {s : State} (h : s.channelsStill) : (jogExpiry x s).channelsStill := by
  unfold jogExpiry
  split
  · exact formPermit_channelsStill (enterOff_channelsStill x h)
  · exact h

theorem linkSilence_channelsStill {s : State} (h : s.channelsStill) : (linkSilence s).channelsStill := by
  unfold linkSilence
  split
  · refine formPermit_channelsStill (channelsStill_of_each (by simp [linkHold_eq]) (fun x still => ?_) h)
    rw [linkHolds_ch]
    exact linkHeld_still (by cases x <;> exact still)
  · exact h

/-- Every event row keeps the channels and the lift causes still. -/
theorem exec_event_liftsStill (i : Instr) (s : State) (hq : queuedOf i = none) (h : s.liftsStill) :
    ∃ t, exec i s = .next t ∧ t.liftsStill := by
  have k := liftsStill_linkKeeps
  have framed {u : State} (he : u.eStop = s.eStop) (hl : u.chL = s.chL) (hr : u.chR = s.chR) (hm : u.mlc = s.mlc) :
      (startTx u).liftsStill := k.startTx_kept (liftsStill_of_kept he hl hr hm h)
  have lifted {u : State} (he : u.eStop = s.eStop) (hl : u.chL = s.chL) (hr : u.chR = s.chR) (empty : u.liftsEmpty) :
      (startTx u).liftsStill := k.startTx_kept ⟨channelsStill_of_kept he hl hr h.1, empty⟩
  obtain ⟨channels, empty⟩ := id h
  cases i <;> cases hq
  case powerOnReset => exact ⟨_, rfl, powerOn_liftsStill s⟩
  case eStopAsserted => exact ⟨_, rfl, k.startTx_kept (assertEStop_liftsStill h)⟩
  case eStopReleased => exact ⟨_, rfl, k.startTx_kept (releaseEStop_liftsStill h)⟩
  case qualifiedTravelPulse forward =>
    exact ⟨_, rfl, lifted (by simp) (by simp) (by simp) (travelPulse_liftsEmpty forward empty)⟩
  case spliceStep => exact ⟨_, rfl, lifted (by simp) (by simp) (by simp) (spliceStep_liftsEmpty empty)⟩
  case spliceFinalStep => exact ⟨_, rfl, lifted (by simp) (by simp) (by simp) (spliceFinalStep_liftsEmpty empty)⟩
  case lineCompletion => exact ⟨_, rfl, lifted (by simp) (by simp) (by simp) (lineCompletion_liftsEmpty empty)⟩
  case loopCycle x plate leg slope =>
    exact ⟨_, rfl, k.startTx_kept
      ⟨loopCycle_channelsStill x plate leg slope channels, loopCycle_liftsEmpty x plate leg slope empty⟩⟩
  case jogExpiry x => exact ⟨_, rfl, k.startTx_kept ⟨jogExpiry_channelsStill x channels, jogExpiry_liftsEmpty x empty⟩⟩
  case linkSilence => exact ⟨_, rfl, k.startTx_kept ⟨linkSilence_channelsStill channels, linkSilence_liftsEmpty empty⟩⟩
  case validFrame bytes => exact ⟨_, rfl, k.startTx_kept (k.linkBytes_kept bytes h)⟩
  case frameStart => exact ⟨_, rfl, k.startTx_kept (k.linkByte_kept startByte h)⟩
  case frameLengthError b => exact ⟨_, rfl, k.startTx_kept (k.linkByte_kept b h)⟩
  case transmitEnd => exact ⟨_, rfl, k.pump_kept (k.clp _ h)⟩
  case gapDiscard =>
    refine ⟨_, rfl, framed ?_ ?_ ?_ ?_⟩ <;> unfold linkGap <;> split <;> rfl
  all_goals exact ⟨_, rfl, framed (by simp) (by simp) (by simp) (by simp)⟩

theorem tick_liftsStill {s : State} (h : s.liftsStill) : (tick s).liftsStill :=
  ⟨channelsStill_of_each (s := s) rfl (fun x still => by cases x <;> exact tick_still still) h.1,
    liftsEmpty_of_mlc (s := s) rfl rfl h.2⟩

theorem step_liftsStill {s t : State} (h : s.liftsStill) (e : step s = .next t) : t.liftsStill :=
  liftsStill_linkKeeps.step_kept exec_event_liftsStill (fun _ _ h => liftsStill_of_kept rfl rfl rfl rfl h)
    tick_liftsStill h e

/-- Under E-stop the part is still when the channels, the lift causes and the conveyor are. -/
theorem eStopSafe_iff (s : State) : s.eStopSafe ↔ s.liftsStill ∧ s.conveyorStill := by
  constructor
  · rintro ⟨left, right, cmd, stopped⟩
    refine ⟨⟨fun x => ?_, fun line => ?_⟩, cmd, fun line => ?_⟩
    · cases x
      · exact ⟨left, fun line => (stopped line).1⟩
      · exact ⟨right, fun line => by obtain ⟨-, off, -⟩ := stopped line; exact off⟩
    · obtain ⟨-, -, causes, -⟩ := stopped line
      exact causes
    · obtain ⟨-, -, -, conveyor⟩ := stopped line
      exact conveyor
  · rintro ⟨⟨channels, causes⟩, cmd, conveyor⟩
    obtain ⟨⟨left, offL⟩, right, offR⟩ := And.intro (channels .L) (channels .R)
    exact ⟨left, right, cmd, fun line => ⟨offL line, offR line, causes line, conveyor line⟩⟩

/-- Settles O53: a step keeps the channels with the lift causes, and the conveyor with the permit. -/
theorem eStopSafeKept : Obligations.EStopSafeKept := by
  intro s t h e
  obtain ⟨lifts, conveyor⟩ := (eStopSafe_iff s).1 h
  exact (eStopSafe_iff t).2 ⟨step_liftsStill lifts e, step_conveyorStill conveyor e⟩

end Sys2Proof.Machine
end

section
/-! The marker list as data (R76 to R78, R83): a free id, a marker's place in chainage order, and the marker that a trip
extends. -/

namespace Sys2Proof.Machine

/-! ### Ids (R77) -/

/-- The ids that follow an id go round the 255 of them (R77). -/
theorem nextIdAfter_iterate {n : Nat} (low : 1 ≤ n) (high : n ≤ 255) (i : Nat) :
    nextIdAfter^[i] n = (n - 1 + i) % 255 + 1 := by
  induction i with
  | zero => simp only [Function.iterate_zero, id_eq]; omega
  | succ i ih =>
    rw [Function.iterate_succ_apply', ih, nextIdAfter]
    split <;> omega

theorem freeId_of_unused {used : List Nat} {n : Nat} (h : n ∉ used) (tries : Nat) : freeId used tries n = n := by
  cases tries with
  | zero => rfl
  | succ tries => exact if_neg (by simpa using h)

/-- Where the search ends on a used id, every id that it has tried is used. -/
theorem iterate_mem_of_freeId_mem {used : List Nat} {tries n : Nat} (h : freeId used tries n ∈ used) {i : Nat}
    (hi : i ≤ tries) : nextIdAfter^[i] n ∈ used := by
  induction tries generalizing n i with
  | zero => rwa [Nat.le_zero.1 hi]
  | succ tries ih =>
    have start : n ∈ used := by
      by_contra unused
      exact unused (freeId_of_unused unused _ ▸ h)
    rw [freeId, if_pos (by simpa using start)] at h
    cases i with
    | zero => exact start
    | succ i => exact ih h (Nat.le_of_succ_le_succ hi)

/-- The ids that a search from `n` has tried when it ends on its last id (R77). -/
def idsTried (n tries : Nat) : List Nat := (List.range (tries + 1)).map (nextIdAfter^[·] n)

theorem idsTried_nodup {n tries : Nat} (low : 1 ≤ n) (high : n ≤ 255) (few : tries < 255) : (idsTried n tries).Nodup := by
  refine List.nodup_range.map_on fun i hi j hj same => ?_
  rw [List.mem_range] at hi hj
  simp only [nextIdAfter_iterate low high] at same
  omega

/-- A search of fewer than 255 ids, more than are used, ends on a free one (R77). -/
theorem freeId_not_mem {used : List Nat} {tries n : Nat} (low : 1 ≤ n) (high : n ≤ 255) (room : used.length ≤ tries)
    (few : tries < 255) : freeId used tries n ∉ used := by
  intro taken
  have all_used : idsTried n tries ⊆ used := by
    intro x hx
    obtain ⟨i, hi, rfl⟩ := List.mem_map.1 hx
    exact iterate_mem_of_freeId_mem taken (Nat.le_of_lt_succ (List.mem_range.1 hi))
  have count : tries + 1 ≤ used.length := by
    simpa [idsTried] using (List.subperm_of_subset (idsTried_nodup low high few) all_used).length_le
  omega

/-- The id of a new marker is free (R77). -/
theorem newId_free {m : Mlc} (low : 1 ≤ m.nextId) (high : m.nextId ≤ 255) (room : m.markers.length < 16) :
    ∀ q ∈ m.markers, q.id ≠ m.newId := by
  intro q hq same
  have few : (m.markers.map (·.id)).length ≤ 17 := by rw [List.length_map]; omega
  exact freeId_not_mem low high few (by decide) (List.mem_map.2 ⟨q, hq, same⟩)

/-- A free next id is the one taken (R77). -/
theorem newId_eq_nextId {m : Mlc} (h : ∀ q ∈ m.markers, q.id ≠ m.nextId) : m.newId = m.nextId :=
  freeId_of_unused (by simpa using h) _

/-! ### Chainage order (R78) -/

theorem insertMarker_perm (k : Marker) (ks : List Marker) : (insertMarker k ks).Perm (k :: ks) := by
  induction ks with
  | nil => exact .refl _
  | cons h rest ih =>
    rw [insertMarker]
    split
    · exact .refl _
    · exact (ih.cons h).trans (.swap k h rest)

/-- A marker at a chainage of its own takes its place in a list in chainage order (R78). -/
theorem insertMarker_pairwise {k : Marker} {ks : List Marker} (order : ks.Pairwise fun p q => p.m < q.m)
    (apart : ∀ q ∈ ks, q.m ≠ k.m) : (insertMarker k ks).Pairwise fun p q => p.m < q.m := by
  induction ks with
  | nil => exact List.pairwise_singleton _ k
  | cons h rest ih =>
    obtain ⟨after, rest_order⟩ := List.pairwise_cons.1 order
    obtain ⟨apart_h, rest_apart⟩ := List.forall_mem_cons.1 apart
    rw [insertMarker]
    split
    next before =>
      exact List.pairwise_cons.2 ⟨List.forall_mem_cons.2 ⟨before, fun q hq => before.trans (after q hq)⟩, order⟩
    next behind =>
      refine List.pairwise_cons.2 ⟨fun q hq => ?_, ih rest_order rest_apart⟩
      obtain rfl | hq := List.mem_cons.1 ((insertMarker_perm k rest).mem_iff.1 hq)
      · omega
      · exact after q hq

/-! ### The marker a trip extends (R83) -/

theorem inWindow_iff (k : Marker) (m : Int) : k.inWindow m = true ↔ k.m - k.lead ≤ m ∧ m < k.m + k.trail := by
  simp only [Marker.inWindow, Bool.and_eq_true, decide_eq_true_eq]
  rfl

/-- In a list in chainage order a member that no other member lies beyond is the last. -/
theorem getLast?_of_greatest {ks : List Marker} {k : Marker} (order : ks.Pairwise fun p q => p.m < q.m) (hk : k ∈ ks)
    (greatest : ∀ q ∈ ks, q.m ≤ k.m) : ks.getLast? = some k := by
  obtain ⟨front, last, rfl⟩ := (List.eq_nil_or_concat' ks).resolve_left (List.ne_nil_of_mem hk)
  rw [List.pairwise_append] at order
  obtain ⟨-, -, before_last⟩ := order
  have same : k = last := by
    obtain front_k | last_k := List.mem_append.1 hk
    · have := before_last k front_k last (List.mem_singleton_self last)
      have := greatest last (by simp)
      omega
    · exact List.mem_singleton.1 last_k
  rw [List.getLast?_concat, same]

/-- A trip at a marker's own chainage extends it (R83). -/
theorem markerToExtend_at {ks : List Marker} {k : Marker} (order : ks.Pairwise fun p q => p.m < q.m) (hk : k ∈ ks) :
    markerToExtend k.m ks = some k := by
  have distinct : (ks.map Marker.m).Nodup := List.pairwise_map.2 (order.imp ne_of_lt)
  unfold markerToExtend
  cases found : ks.find? (fun q => q.m = k.m) with
  | none => exact absurd (by simp) (List.find?_eq_none.1 found k hk)
  | some q =>
    have at_m : q.m = k.m := by simpa using List.find?_some found
    exact congrArg some (List.inj_on_of_nodup_map distinct (List.mem_of_find?_eq_some found) hk at_m)

/-- With no marker at its chainage a trip extends the one of greatest chainage whose window holds it (R83). -/
theorem markerToExtend_window {ks : List Marker} {k : Marker} {m : Int} (order : ks.Pairwise fun p q => p.m < q.m)
    (hk : k ∈ ks) (none_at : ∀ q ∈ ks, q.m ≠ m) (start : k.m - k.lead ≤ m) (finish : m < k.m + k.trail)
    (greatest : ∀ q ∈ ks, q.m - q.lead ≤ m → m < q.m + q.trail → q.m ≤ k.m) : markerToExtend m ks = some k := by
  have none_found : ks.find? (fun q => q.m = m) = none := List.find?_eq_none.2 (by simpa using none_at)
  rw [markerToExtend, none_found]
  refine getLast?_of_greatest (order.filter _) (List.mem_filter.2 ⟨hk, (inWindow_iff k m).2 ⟨start, finish⟩⟩) ?_
  intro q hq
  obtain ⟨listed, holds⟩ := List.mem_filter.1 hq
  obtain ⟨after, before⟩ := (inWindow_iff q m).1 holds
  exact greatest q listed after before

/-- With no marker at its chainage and outside every window a trip extends none (R84). -/
theorem markerToExtend_none {ks : List Marker} {m : Int}
    (outside : ∀ q ∈ ks, q.m ≠ m ∧ (m < q.m - q.lead ∨ q.m + q.trail ≤ m)) : markerToExtend m ks = none := by
  have none_found : ks.find? (fun q => q.m = m) = none :=
    List.find?_eq_none.2 fun q hq => by simpa using (outside q hq).1
  rw [markerToExtend, none_found]
  refine List.getLast?_eq_none_iff.2 (List.filter_eq_nil_iff.2 fun q hq holds => ?_)
  obtain ⟨after, before⟩ := (inWindow_iff q m).1 holds
  obtain ⟨-, early | late⟩ := outside q hq <;> omega

end Sys2Proof.Machine
end

section
/-! Marker requests, trips and the lift (R76 to R78, R81 to R88, R91, R92): the forming of WINDOW and the event recorded after a
change of the marker list, and the requests that are accepted. -/

namespace Sys2Proof.Machine

/-! ### A change of the marker list -/

/-- The list has become `ks` and the next id `nextId`. -/
def relisted (ks : List Marker) (nextId : Nat) (s : State) : State :=
  { s with mlc := { s.mlc with markers := ks, nextId := nextId } }

/-- After a change of the list WINDOW is formed again and the event of the marker `k` is recorded (R85, R92). -/
def markersChanged (kind : MarkerEventKind) (k : Marker) (ks : List Marker) (nextId : Nat) (s : State) : State :=
  recordEvent kind k (reformWindow (relisted ks nextId s))

section
variable (kind : MarkerEventKind) (k : Marker) (ks : List Marker) (nextId : Nat) (s : State)

theorem markersChanged_mlc : (markersChanged kind k ks nextId s).mlc = { s.mlc with
    markers := ks, nextId := nextId
    lastEvent := ⟨kind, k.id, k.m, k.lead, k.trail, k.origin⟩
    eventCount := if s.mlc.eventCount < 65535 then s.mlc.eventCount + 1 else 0
    causes := { s.mlc.causes with window := !s.eStop && ks.any (fun q => q.state = .active) }
    returnDepth := (markersChanged kind k ks nextId s).mlc.returnDepth } :=
  congrArg (fun x : Mlc => { x with
    eventCount := wrapInc x.eventCount, lastEvent := ⟨kind, k.id, k.m, k.lead, k.trail, k.origin⟩ })
    (setCauses_mlc_eq { s.mlc.causes with window := (relisted ks nextId s).windowCause } (relisted ks nextId s))

theorem markersChanged_markers : (markersChanged kind k ks nextId s).mlc.markers = ks := by rw [markersChanged_mlc]

theorem markersChanged_returnDepth : returnDepthFormed s (markersChanged kind k ks nextId s) :=
  returnDepthFormed_congr rfl rfl rfl rfl (setCauses_formed _ (relisted ks nextId s))

theorem reportsMade_markersChanged {m : BitVec 9} (hm : ReportKind.state.bit &&& m = ReportKind.state.bit) :
    reportsMade m s (markersChanged kind k ks nextId s) := by
  have listed : reportsMade m s (relisted ks nextId s) := reportsMade_of_kept rfl rfl rfl rfl rfl rfl rfl rfl
  have window_formed : reportsMade m (relisted ks nextId s) (reformWindow (relisted ks nextId s)) :=
    reportsMade_setCauses _ hm _
  exact (listed.trans window_formed).trans (reportsMade_of_kept rfl rfl rfl rfl rfl rfl rfl rfl)

theorem markersChanged_frame : markersChanged kind k ks nextId s =
    { s with mlc := (markersChanged kind k ks nextId s).mlc, clp := (markersChanged kind k ks nextId s).clp } := by
  apply State.eq_of_fields <;> simp [markersChanged, reformWindow, relisted]

/-- With its MARKER report the change has every report it calls for (R86, R92). -/
theorem reportsMade_markersChanged_marker :
    reportsMade 0b000100001 s (queueReport .marker (markersChanged kind k ks nextId s)) :=
  (reportsMade_markersChanged kind k ks nextId s (by decide)).trans (reportsMade_marker (by decide) _)

theorem markersChanged_marker_pending (enabled : s.clp.enabled.getLsbD 5 = true) :
    (queueReport .marker (markersChanged kind k ks nextId s)).clp.waiting.getLsbD 5 = true := by
  refine queueReport_pending .marker _ ?_
  rw [(show (markersChanged kind k ks nextId s).clp.enabled = s.clp.enabled by simp [markersChanged, reformWindow, relisted])]
  exact enabled

theorem markersChanged_marker_frame : queueReport .marker (markersChanged kind k ks nextId s) =
    { s with
      mlc := (queueReport .marker (markersChanged kind k ks nextId s)).mlc
      clp := (queueReport .marker (markersChanged kind k ks nextId s)).clp } := by
  rw [queueReport_eq]
  conv_lhs => rw [markersChanged_frame]

end

theorem queueReport_mlc (k : ReportKind) (s : State) : (queueReport k s).mlc = s.mlc := by simp

/-! ### A new marker (R77, R78, R84) -/

/-- The marker that enters with a free id and its state by the drum (R76, R77). -/
def State.newMarker (s : State) (m lead trail : Int) (origin : Origin) : Marker :=
  Marker.formed s.drum ⟨s.mlc.newId, m, lead, trail, origin, .armed⟩

/-- The state when the new marker `k` has taken its place (R78, R84). -/
def markerEntered (kind : MarkerEventKind) (k : Marker) (s : State) : State :=
  markersChanged kind k (insertMarker k s.mlc.markers) (nextIdAfter k.id) s

theorem markerEntered_markers (kind : MarkerEventKind) (k : Marker) (s : State) :
    (markerEntered kind k s).mlc.markers = insertMarker k s.mlc.markers :=
  markersChanged_markers _ _ _ _ s

theorem markerEntered_mlc (kind : MarkerEventKind) (k : Marker) (s : State) : (markerEntered kind k s).mlc = { s.mlc with
    markers := (markerEntered kind k s).mlc.markers, nextId := if k.id < 255 then k.id + 1 else 1
    lastEvent := ⟨kind, k.id, k.m, k.lead, k.trail, k.origin⟩
    eventCount := if s.mlc.eventCount < 65535 then s.mlc.eventCount + 1 else 0
    causes := { s.mlc.causes with window := !s.eStop && (k :: s.mlc.markers).any (fun q => q.state = .active) }
    returnDepth := (markerEntered kind k s).mlc.returnDepth } := by
  rw [markerEntered_markers, ← (insertMarker_perm k s.mlc.markers).any_eq]
  exact markersChanged_mlc kind k _ _ s

/-- ADD_MARKER, accepted (R78). -/
theorem serveAddMarker_accepted {s : State} {m : Int} {lead trail : Nat} (low : -1000000000 ≤ m) (high : m ≤ 1000000000)
    (hlead : lead ≤ 20000) (htrail : trail ≤ 20000) (apart : ∀ q ∈ s.mlc.markers, q.m ≠ m)
    (room : s.mlc.markers.length < 16) :
    let k := s.newMarker m lead trail .machine
    serveAddMarker m lead trail s = accept (f8 k.id ++ f8 k.state.code) (markerEntered .added k s) := by
  have in_range : chainageOk m = true := by
    simp only [chainageOk, within, Bool.and_eq_true, decide_eq_true_eq]
    exact ⟨low, high⟩
  unfold serveAddMarker
  rw [if_neg (by simp [in_range, hlead, htrail]), if_neg (by simpa using apart), if_neg (not_le.2 room)]
  rfl

/-- A trip that extends no marker makes one while the list has room (R84). -/
theorem createFromTrip_room {s : State} (m : Int) (room : s.mlc.markers.length < 16) :
    createFromTrip m s = queueReport .marker
      (markerEntered .created (s.newMarker m s.tun.autoLead s.tun.autoTrail .scanner) s) :=
  if_pos room

/-- On a full list the detection is lost (R84). -/
theorem createFromTrip_full {s : State} (m : Int) (full : 16 ≤ s.mlc.markers.length) : createFromTrip m s = { s with
    mlc := { s.mlc with
      lost := if s.mlc.lost < 65535 then s.mlc.lost + 1 else 65535
      lastEvent := ⟨.lost, 0, m, 0, 0, .scanner⟩
      eventCount := if s.mlc.eventCount < 65535 then s.mlc.eventCount + 1 else 0 }
    clp := { s.clp with waiting := s.clp.waiting ||| (0b000100000 &&& s.clp.enabled) } } := by
  rw [createFromTrip, if_neg (not_lt.2 full), queueReport_eq]
  rfl

/-! ### The marker requests (R78, R81, R82) -/

/-- REMOVE_MARKER, accepted (R81). -/
theorem serveRemoveMarker_accepted {s : State} {id : Nat} {k : Marker} (low : 1 ≤ id) (high : id ≤ 255)
    (found : s.mlc.markers.find? (fun q => q.id = id) = some k) (inactive : k.state ≠ .active) :
    serveRemoveMarker id s = accept [] (recordEvent .removed k
      { s with mlc := { s.mlc with markers := s.mlc.markers.filter (fun q => q.id ≠ id) } }) := by
  rw [serveRemoveMarker, if_neg (by omega), found]
  exact if_neg inactive

/-- The GET_MARKERS reply field by field (R82). -/
theorem markersValues_eq (first count : Nat) (s : State) : markersValues first count s =
    bytesBE 1 s.mlc.markers.length ++ bytesBE 1 s.mlc.nextId ++ bytesBE 2 s.mlc.lost ++ bytesBE 2 s.mlc.eventCount ++
    [(if s.mlc.causes.manual then 0x01 else 0) + (if s.mlc.causes.plan then 0x02 else 0) +
      (if s.mlc.causes.window then 0x04 else 0)] ++ [if s.lifted then 0x01 else 0x00] ++ fOpt 2 fDepth s.mlc.returnDepth ++
    bytesBE 1 (min count (s.mlc.markers.length - first) : Nat) ++
    ((s.mlc.markers.drop first).take count).flatMap fMarker := by
  have records : fRecords fMarker (window first count s.mlc.markers) =
      bytesBE 1 (min count (s.mlc.markers.length - first) : Nat) ++
        ((s.mlc.markers.drop first).take count).flatMap fMarker := by
    rw [← List.length_drop, ← List.length_take]
    rfl
  rw [markersValues, records, fLiftCauses, fSet_three]
  simp only [f8, f16, fBool, List.append_assoc]

/-- Settles O26: a new marker takes its place, a removed one leaves, and the reply to GET_MARKERS is its layout. -/
theorem markerRequests : Obligations.MarkerRequests := by
  intro s tag m lead trail id first count k free
  refine ⟨fun low high hlead htrail apart room id_low id_high => ?_, fun low high found inactive => ?_, fun hf h1 h8 => ?_⟩
  · let new := s.newMarker m lead trail .machine
    have served := serveAddMarker_accepted low high hlead htrail apart room
    refine ⟨markerEntered .added new s, new.id, new.state.code, ?_, newId_free id_low id_high room, newId_eq_nextId, new,
      rfl, rfl, rfl, rfl, rfl, rfl, rfl, ?_, fun order => ?_, markerEntered_mlc .added new s,
      markersChanged_returnDepth _ _ _ _ s, reportsMade_markersChanged _ _ _ _ s (by decide), markersChanged_frame _ _ _ _ s⟩
    · exact exec_answered (q := ⟨tag, .addMarker m lead trail⟩) rfl free served
    · rw [markerEntered_markers]
      exact insertMarker_perm new _
    · rw [markerEntered_markers]
      exact insertMarker_pairwise order apart
  · exact exec_answered (q := ⟨tag, .removeMarker id⟩) rfl free (serveRemoveMarker_accepted low high found inactive)
  · have in_range : ¬(15 < first ∨ count < 1 ∨ 8 < count) := by omega
    have served : serveGetMarkers first count s = accept (markersValues first count s) s := if_neg in_range
    rw [markersValues_eq] at served
    refine (exec_answered (i := .getMarkers tag first count) (q := ⟨tag, .getMarkers first count⟩) rfl free served).trans ?_
    cases s.mlc.returnDepth <;> rfl

/-! ### A trip (R83, R84) -/

/-- The marker `k` with its trail lengthened to `tr`, its state formed at the drum (R83). -/
def State.lengthened (s : State) (k : Marker) (tr : Int) : Marker := Marker.formed s.drum { k with trail := tr }

theorem extendMarker_reached {s : State} {m : Int} {k : Marker}
    (h : min 20000 (max k.trail (m + s.tun.autoTrail - k.m)) = k.trail) : extendMarker m k s = s :=
  if_pos h

theorem extendMarker_beyond {s : State} {m tr : Int} {k : Marker}
    (htr : tr = min 20000 (max k.trail (m + s.tun.autoTrail - k.m))) (h : tr ≠ k.trail) :
    extendMarker m k s = queueReport .marker (markersChanged .extended (s.lengthened k tr)
      (s.mlc.markers.map fun q => if q.id = k.id then s.lengthened k tr else q) s.mlc.nextId s) := by
  subst htr
  exact if_neg h

/-- Settles O27: the marker that the trip extends, a new one, or a detection lost. -/
theorem tripTaken : Obligations.TripTaken := by
  intro s m order
  refine ⟨fun k tr hk extends_k htr => ?_, fun outside room id_low id_high => ?_, fun outside full => ?_⟩
  · have taken : takeTrip m s = extendMarker m k s := by
      have found : markerToExtend m s.mlc.markers = some k := by
        obtain rfl | ⟨none_at, start, finish, greatest⟩ := extends_k
        · exact markerToExtend_at order hk
        · exact markerToExtend_window order hk none_at start finish greatest
      rw [takeTrip, found]
    refine ⟨fun reached => taken.trans (extendMarker_reached (htr ▸ reached)), fun beyond => ?_⟩
    refine ⟨_, taken.trans (extendMarker_beyond htr beyond), ?_, markersChanged_marker_pending _ _ _ _ s, ?_,
      reportsMade_markersChanged_marker _ _ _ _ s, markersChanged_marker_frame _ _ _ _ s⟩
    · rw [queueReport_mlc, markersChanged_markers]
      exact markersChanged_mlc _ _ _ _ s
    · rw [returnDepthFormed, queueReport_mlc]
      exact markersChanged_returnDepth _ _ _ _ s
  · let new := s.newMarker m s.tun.autoLead s.tun.autoTrail .scanner
    have taken : takeTrip m s = queueReport .marker (markerEntered .created new s) := by
      rw [takeTrip, markerToExtend_none outside]
      exact createFromTrip_room m room
    refine ⟨_, new, taken, rfl, rfl, rfl, rfl, newId_free id_low id_high room, newId_eq_nextId, rfl, ?_, ?_, ?_,
      markersChanged_marker_pending _ _ _ _ s, ?_, reportsMade_markersChanged_marker _ _ _ _ s,
      markersChanged_marker_frame _ _ _ _ s⟩
    · rw [queueReport_mlc, markerEntered_markers]
      exact insertMarker_perm new _
    · rw [queueReport_mlc, markerEntered_markers]
      exact insertMarker_pairwise order fun q hq => (outside q hq).1
    · rw [queueReport_mlc]
      exact markerEntered_mlc .created new s
    · rw [returnDepthFormed, queueReport_mlc]
      exact markersChanged_returnDepth _ _ _ _ s
  · rw [takeTrip, markerToExtend_none outside]
    exact createFromTrip_full m full

/-! ### The lift (R85 to R88, R91) -/

/-- MANUAL enters the set: from an empty set it captures the return depth (R87, R91). -/
theorem setCauses_manual_mlc (s : State) : (setCauses { s.mlc.causes with manual := true } s).mlc = { s.mlc with
    causes := { s.mlc.causes with manual := true }
    returnDepth :=
      if s.mlc.causes = ⟨false, false, false⟩ ∧ s.chL.returning = false ∧ s.chR.returning = false then
        (if s.chL.mode = .slope then some s.chL.dCmd
        else if s.chR.mode = .slope then some s.chR.dCmd else none)
      else s.mlc.returnDepth } := by
  have formed := setCauses_formed { s.mlc.causes with manual := true } s
  simp only [returnDepthFormed, setCauses_causes, ne_eq, LiftCauses.mk.injEq, Bool.true_eq_false, false_and,
    not_false_eq_true, true_and] at formed
  rw [setCauses_mlc_eq, formed]

/-- Settles O28: MANUAL enters with the return depth, and leaves. -/
theorem liftAndReturn : Obligations.LiftAndReturn := by
  intro s tag free auto
  have any : s.anyAuto = true := (anyAuto_iff s).2 auto
  refine ⟨?_, fun manual => ?_⟩
  · have served : serveLift s = accept [] (setCauses { s.mlc.causes with manual := true } s) := if_pos any
    refine ⟨_, exec_answered (q := ⟨tag, .lift⟩) rfl free served, ?_, setCauses_manual_mlc s,
      reportsMade_setCauses _ (by decide) s, ?_⟩
    · rw [State.lifted, setCauses_causes, anyAuto_congr (s := s) (by simp) (by simp), any]
      rfl
    · apply State.eq_of_fields <;> simp
  · have served : serveReturn s = accept [] (dropManual s) := by
      rw [serveReturn, if_neg (by simp [any]), if_neg (by simp [manual])]
    refine ⟨_, exec_answered (q := ⟨tag, .returnDrum⟩) rfl free served, ?_, dropManual_mlc s, ?_, ?_⟩
    · rw [State.lifted, dropManual_mlc, anyAuto_congr (s := s) (by simp) (by simp), any]
      simp [LiftCauses.nonEmpty]
    · have changes : ({ s.mlc.causes with manual := false } : LiftCauses) ≠ s.mlc.causes := fun same => by
        rw [← same] at manual
        cases manual
      rw [dropManual, setCauses_clp, if_neg changes]
      rfl
    · apply State.eq_of_fields <;> simp

end Sys2Proof.Machine
end

section
/-! The scanner's triggers (R96, R99, R100, R102) and the framing of both ports (R95, R190): the assembler byte by byte. -/

namespace Sys2Proof.Machine

/-- An event row by what its event makes of the state, before the choice of the transmitter (R193). -/
theorem exec_event {i : Instr} {s t u : State} (acts : t = u) (row : exec i s = .next (startTx t)) :
    exec i s = .next (startTx u) := acts ▸ row

/-! ### Triggers (R96, R99, R100, R102) -/

/-- A scan chainage with Ds set (R5). -/
theorem scanChainage_eq {s : State} {ds : Int} (h : s.geo.ds = some ds) (c : Int) :
    s.scanChainage c = clampChainage (c + ds) := by
  rw [State.scanChainage, h, Option.getD_some]

/-- A TRIGGER sent, as one update of SPR (R96, R99). -/
theorem sendTrigger_eq (scanAt : Int) (mark : LineMark) (s : State) :
    sendTrigger scanAt mark s = { s with spr := { s.spr with
      sentFrame := some ⟨0x50, 0, [BitVec.ofNat 8 s.spr.trigNumber]⟩
      awaited := some ⟨s.spr.trigNumber, scanAt, mark, 0⟩
      trigNumber := if s.spr.trigNumber < 255 then s.spr.trigNumber + 1 else 0, idle := 0
      counters := { s.spr.counters with
        sent := if s.spr.counters.sent < 4294967295 then s.spr.counters.sent + 1 else 4294967295 } } } := by
  rw [← f8_eq]
  rfl

/-- The trigger issued with a chainage is no longer due (log entry 5). -/
def scanTaken (c : Int) (s : State) : State := { s with trc := { s.trc with scanDue := s.trc.scanDue.erase c } }

theorem scanTrigger_off {s : State} (off : s.spr.enable = false) (c : Int) : scanTrigger c s = scanTaken c s :=
  if_pos (by rw [off]; rfl)

theorem scanTrigger_missed {s : State} {w : Awaited} (on : s.spr.enable = true) (waits : s.spr.awaited = some w) (c : Int) :
    scanTrigger c s = countScan (fun k => { k with missed := satInc Config.count32Max k.missed }) (scanTaken c s) :=
  (if_neg (by rw [on]; exact Bool.false_ne_true)).trans (if_pos (by rw [waits]; rfl))

theorem scanTrigger_sent {s : State} (on : s.spr.enable = true) (free : s.spr.awaited = none) (c : Int) :
    scanTrigger c s = sendTrigger (s.scanChainage c) .newGround (scanTaken c s) :=
  (if_neg (by rw [on]; exact Bool.false_ne_true)).trans (if_neg (by rw [free]; exact Bool.false_ne_true))

/-- Settles O29: a trigger is dropped, missed or sent, and a timed-out line is no longer awaited. -/
theorem scanTriggers : Obligations.ScanTriggers := by
  intro s c ds w
  refine ⟨fun off => ?_, fun on waits => ?_, fun on free hds => ?_, fun on free hds => ?_, fun waits => ?_⟩
  · exact exec_event (scanTrigger_off off c) rfl
  · exact exec_event (scanTrigger_missed on waits c) rfl
  · rw [← scanChainage_eq hds]
    exact exec_event ((scanTrigger_sent on free c).trans (sendTrigger_eq _ _ _)) rfl
  · rw [← scanChainage_eq hds]
    exact exec_event ((if_pos ⟨on, free⟩).trans (sendTrigger_eq _ _ _)) rfl
  · exact exec_event (if_pos (by rw [waits]; rfl)) rfl

/-! ### One byte in an assembler (R190) -/

theorem push_start : Assembler.hunt.push startByte = (.inFrame [], .nothing) := rfl

theorem push_skipped {b : Byte} (h : b ≠ startByte) : Assembler.hunt.push b = (.hunt, .nothing) := if_neg h

theorem push_length {n : Byte} (h : n.toNat ≤ 248) : (Assembler.inFrame []).push n = (.inFrame [n], .nothing) :=
  if_neg (not_lt.2 h)

theorem push_lengthError {n : Byte} (h : 248 < n.toNat) : (Assembler.inFrame []).push n = (.hunt, .lengthError) := if_pos h

/-- A byte before the last of a frame is kept. -/
theorem push_kept {n b : Byte} {bs : List Byte} (h : bs.length + 2 < n.toNat + 5) :
    (Assembler.inFrame (n :: bs)).push b = (.inFrame (n :: (bs ++ [b])), .nothing) :=
  if_pos (by simpa using h)

/-- The last byte of a frame has it judged by its CRC. -/
theorem push_last {n b : Byte} {bs : List Byte} (h : bs.length + 2 = n.toNat + 5) :
    (Assembler.inFrame (n :: bs)).push b =
      (.hunt, judgeFrame ((n :: (bs ++ [b])).take (n.toNat + 3)) ((n :: (bs ++ [b])).drop (n.toNat + 3))) :=
  if_neg (by simpa using h.ge)

/-! ### The framing events (R95, R190) -/

/-- A byte of the Control Link by what it does in the assembler. -/
theorem linkByte_of_push {s : State} {b : Byte} {a : Assembler} {e : RxEvent} (h : s.clp.rx.push b = (a, e)) :
    linkByte s b = applyLinkEvent e { s with clp := { s.clp with rx := a } } := by
  rw [linkByte, h]

/-- An assembler written again as it is changes nothing. -/
theorem clp_rx_self {s : State} {a : Assembler} (h : s.clp.rx = a) : { s with clp := { s.clp with rx := a } } = s := by
  rw [← h]

/-- In HUNT a byte that starts no frame is skipped (R190). -/
theorem linkByte_skipped {s : State} {b : Byte} (hunt : s.clp.rx = .hunt) (other : b ≠ startByte) : linkByte s b = s := by
  rw [linkByte, hunt, push_skipped other]
  exact clp_rx_self hunt

theorem linkGap_inFrame {s : State} {bytes : List Byte} (h : s.clp.rx = .inFrame bytes) : linkGap s =
    countFrames (fun c => { c with gap := satInc Config.count32Max c.gap }) { s with clp := { s.clp with rx := .hunt } } := by
  rw [linkGap, h]

theorem scannerGap_inFrame {s : State} {bytes : List Byte} (h : s.spr.rx = .inFrame bytes) :
    scannerGap s = countBad { s with spr := { s.spr with rx := .hunt } } := by
  rw [scannerGap, h]

/-- Settles O49: each byte by its place in the frame, and the two gaps. -/
theorem framingEvents : Obligations.FramingEvents := by
  intro s len bytes long
  have not_start : len ≠ startByte := by rintro rfl; exact absurd long (by decide)
  refine ⟨fun hunt => ?_, fun opened => ?_, fun opened => ?_, fun hunt => ?_, fun inside => ?_, fun inside => ?_⟩
  · exact exec_event (linkByte_of_push (hunt ▸ push_start)) rfl
  · exact exec_event (linkByte_of_push (opened ▸ push_length (by decide))) rfl
  · exact exec_event (linkByte_of_push (opened ▸ push_lengthError long)) rfl
  · exact exec_event (linkByte_skipped hunt not_start) rfl
  · exact exec_event (linkGap_inFrame inside) rfl
  · exact exec_event (scannerGap_inFrame inside) rfl

end Sys2Proof.Machine
end

section
/-! The scanner port (R95, R96, R101, R103): a frame received in HUNT, and a LINE buffered, overrun or stray. -/

namespace Sys2Proof.Machine

/-! ### The bytes of a frame (R95, R189) -/

theorem spr_rx_self {s : State} {a : Assembler} (h : s.spr.rx = a) : { s with spr := { s.spr with rx := a } } = s := by
  rw [← h]

/-- What a complete frame, judged by its CRC, makes of a state (R95). -/
def applyScannerEvent (e : RxEvent) (s : State) : State :=
  match e with
  | .nothing => s
  | .lengthError => countBad s
  | .crcError => countBad s
  | .frame f => takeScannerFrame f s

/-- A byte from the head by what it does in the assembler. -/
theorem scannerByte_of_push {s : State} {b : Byte} {a : Assembler} {e : RxEvent} (h : s.spr.rx.push b = (a, e)) :
    scannerByte s b = applyScannerEvent e { s with spr := { s.spr with rx := a } } := by
  rw [scannerByte, h]
  rfl

/-- The bytes left of a frame, read from inside it: they are kept up to the last, which has the frame judged. -/
theorem scannerBytes_inside {n : Byte} {tail : List Byte} (some_left : tail ≠ []) {bs : List Byte} {s : State}
    (inside : s.spr.rx = .inFrame (n :: bs)) (total : bs.length + tail.length = n.toNat + 4) :
    tail.foldl scannerByte s =
      applyScannerEvent (judgeFrame ((n :: (bs ++ tail)).take (n.toNat + 3)) ((n :: (bs ++ tail)).drop (n.toNat + 3)))
        { s with spr := { s.spr with rx := .hunt } } := by
  induction tail generalizing bs s with
  | nil => exact absurd rfl some_left
  | cons b tail ih =>
    rw [List.length_cons] at total
    by_cases last : tail = []
    · subst last
      exact scannerByte_of_push (inside ▸ push_last (by simp at total; omega))
    · have := List.length_pos_iff.2 last
      rw [List.foldl_cons, scannerByte_of_push (inside ▸ push_kept (by omega)), List.append_cons bs b tail]
      exact ih last rfl (by simp; omega)

/-- The bytes of a frame received in HUNT have it judged, and leave the assembler in HUNT. -/
theorem scannerBytes_frame {n : Byte} {rest c : List Byte} {s : State} (hunt : s.spr.rx = .hunt) (fits : n.toNat ≤ 248)
    (hrest : rest.length = n.toNat + 2) (hc : c.length = 2) :
    (startByte :: (n :: rest ++ c)).foldl scannerByte s = applyScannerEvent (judgeFrame (n :: rest) c) s := by
  have body : (n :: rest ++ c).take (n.toNat + 3) = n :: rest := List.take_left' (by simp [hrest])
  have crc : (n :: rest ++ c).drop (n.toNat + 3) = c := List.drop_left' (by simp [hrest])
  rw [List.foldl_cons, scannerByte_of_push (hunt ▸ push_start), List.cons_append, List.foldl_cons,
    scannerByte_of_push (push_length fits), scannerBytes_inside (n := n) (bs := []) _ rfl _, List.nil_append,
    ← List.cons_append, body, crc]
  · exact congrArg _ (spr_rx_self hunt)
  · simp [← List.length_pos_iff, hc]
  · simp [hrest, hc]

theorem judgeFrame_wire (f : Frame) : judgeFrame f.body (crcBytes (crcOf f.body)) = .frame f := if_pos rfl

/-- The length byte of a frame whose payload fits it (R189). -/
theorem length_byte {n : Nat} (h : n ≤ 248) : (BitVec.ofNat 8 n).toNat = n := by
  rw [BitVec.toNat_ofNat, Nat.mod_eq_of_lt (by omega)]

/-- A whole frame from the head is taken (R95). -/
theorem scannerBytes_wire {f : Frame} {s : State} (hunt : s.spr.rx = .hunt) (fits : f.payload.length ≤ 248) :
    f.wire.foldl scannerByte s = takeScannerFrame f s := by
  refine (scannerBytes_frame hunt ?_ ?_ rfl).trans (congrArg (applyScannerEvent · s) (judgeFrame_wire f))
  · rwa [length_byte fits]
  · rw [length_byte fits]
    rfl

/-- A frame whose CRC does not match is discarded (R95). -/
theorem scannerBytes_crcError {f : Frame} {c : List Byte} {s : State} (hunt : s.spr.rx = .hunt)
    (fits : f.payload.length ≤ 248) (hc : c.length = 2) (differs : c ≠ crcBytes (crcOf f.body)) :
    (startByte :: (f.body ++ c)).foldl scannerByte s = countBad s := by
  refine (scannerBytes_frame hunt ?_ ?_ hc).trans (congrArg (applyScannerEvent · s) (if_neg differs.symm))
  · rwa [length_byte fits]
  · rw [length_byte fits]
    rfl

/-- A length byte above 248 is discarded with its start byte (R95). -/
theorem scannerBytes_lengthError {len : Byte} {s : State} (hunt : s.spr.rx = .hunt) (long : 248 < len.toNat) :
    [startByte, len].foldl scannerByte s = countBad s := by
  rw [List.foldl_cons, scannerByte_of_push (hunt ▸ push_start), List.foldl_cons,
    scannerByte_of_push (push_lengthError long), List.foldl_nil]
  exact congrArg countBad (spr_rx_self hunt)

/-! ### The payload of a LINE (R96, R202) -/

theorem natBE_byte {payload : List Byte} {i : Nat} (h : i < payload.length) :
    natBE (fieldAt i 1 payload) = (payload.getD i 0).toNat := by
  rw [fieldAt, List.drop_eq_getElem_cons h, List.getD_eq_getElem _ _ h]
  simp only [List.take_succ_cons, List.take_zero, natBE, List.foldl_cons, List.foldl_nil, zero_mul, zero_add]

theorem natBE_word {payload : List Byte} {i : Nat} (h : i + 1 < payload.length) :
    natBE (fieldAt i 2 payload) = 256 * (payload.getD i 0).toNat + (payload.getD (i + 1) 0).toNat := by
  rw [fieldAt, List.drop_eq_getElem_cons (by omega), List.drop_eq_getElem_cons h, List.getD_eq_getElem _ _ h,
    List.getD_eq_getElem _ _ (by omega)]
  simp only [List.take_succ_cons, List.take_zero, natBE, List.foldl_cons, List.foldl_nil, zero_mul, zero_add, mul_comm]

/-- The 64 points, byte by byte (R96). -/
theorem linePoints_eq {payload : List Byte} (h : payload.length = 193) :
    linePoints payload = (List.range 64).map (fun i =>
      ⟨256 * (payload.getD (1 + 3 * i) 0).toNat + (payload.getD (2 + 3 * i) 0).toNat,
        (payload.getD (3 + 3 * i) 0).toNat⟩) := by
  refine List.map_congr_left fun i hi => ?_
  have := List.mem_range.1 hi
  rw [pointAt, natBE_word (by omega), natBE_byte (by omega), show 1 + 3 * i + 1 = 2 + 3 * i by omega]

/-! ### A LINE frame (R101, R103) -/

/-- A LINE frame of full length is taken as a line (R95, R96). -/
theorem takeScannerFrame_line {tag : Byte} {payload : List Byte} (h : payload.length = 193) (s : State) :
    takeScannerFrame ⟨0x51, tag, payload⟩ s = takeLine (payload.getD 0 0).toNat (linePoints payload) s := by
  rw [takeScannerFrame, if_pos ⟨rfl, h⟩, natBE_byte (by simp only [h]; omega)]

theorem takeScannerFrame_other {f : Frame} (h : f.kind ≠ 0x51 ∨ f.payload.length ≠ 193) (s : State) :
    takeScannerFrame f s = countBad s :=
  if_neg (not_and_or.2 h)

/-- The awaited line is offered to the buffer with the trigger's scan chainage and mark (R101). -/
theorem takeLine_awaited {s : State} {w : Awaited} {number : Nat} (waits : s.spr.awaited = some w) (same : w.number = number)
    (points : List Point) : takeLine number points s =
      offerLine ⟨w.number, w.scanAt, w.mark, points⟩ { s with spr := { s.spr with awaited := none } } := by
  rw [takeLine, waits]
  exact if_pos same

/-- A line whose number is not awaited is stray (R101). -/
theorem takeLine_stray {s : State} {number : Nat} (other : ∀ w, s.spr.awaited = some w → w.number ≠ number)
    (points : List Point) : takeLine number points s = countStray s := by
  unfold takeLine
  split
  next => rfl
  next w waits => exact if_neg (other w waits)

/-- The awaited line enters a buffer with room (R103). -/
theorem takeLine_buffered {s : State} {w : Awaited} {number : Nat} (waits : s.spr.awaited = some w) (same : w.number = number)
    (points : List Point) (room : s.spr.buffer.length < 2) : takeLine number points s = { s with spr := { s.spr with
      awaited := none, buffer := s.spr.buffer ++ [⟨w.number, w.scanAt, w.mark, points⟩] } } :=
  (takeLine_awaited waits same points).trans (if_pos room)

/-- The awaited line dropped by a full buffer, before its flag is set (R103). -/
def lineDropped (s : State) : State := { s with spr := { s.spr with
  awaited := none
  counters := { s.spr.counters with overruns := satInc Config.count32Max s.spr.counters.overruns } } }

theorem takeLine_overrun {s : State} {w : Awaited} {number : Nat} (waits : s.spr.awaited = some w) (same : w.number = number)
    (points : List Point) (full : 2 ≤ s.spr.buffer.length) : takeLine number points s = setFlag .scanOverrun (lineDropped s) :=
  (takeLine_awaited waits same points).trans (if_neg (not_lt.2 full))

/-- Settles O30: the bytes make one frame, and the frame is a line taken by its number or one discarded. -/
theorem lineArrivalTaken : Obligations.LineArrivalTaken := by
  refine ⟨fun s tag payload pts length hunt hpts => ?_, fun s t f c len hunt fits ht => ?_⟩
  · have taken : (Frame.wire ⟨0x51, tag, payload⟩).foldl scannerByte s =
        takeLine (payload.getD 0 0).toNat pts s := by
      rw [scannerBytes_wire hunt (by simp only [length]; omega), takeScannerFrame_line length, linePoints_eq length, hpts]
    refine ⟨fun w waits same room => ?_, fun w waits same full => ?_, fun other => ?_⟩
    · exact exec_event (taken.trans (takeLine_buffered waits same pts room)) rfl
    · have dropped : reportsMade 0b000000100 s (lineDropped s) := reportsMade_of_kept rfl rfl rfl rfl rfl rfl rfl rfl
      refine ⟨setFlag .scanOverrun (lineDropped s), exec_event (taken.trans (takeLine_overrun waits same pts full)) rfl, ?_,
        setFlag_flags .scanOverrun (lineDropped s), dropped.trans (reportsMade_setFlag .scanOverrun (by decide) _), ?_⟩
      · simp only [setFlag_frame]
        rfl
      · apply State.eq_of_fields <;> simp [lineDropped]
    · exact exec_event (taken.trans (takeLine_stray other pts)) rfl
  · subst ht
    refine ⟨fun other => ?_, fun hc differs => ?_, fun long => ?_⟩
    · exact exec_event ((scannerBytes_wire hunt fits).trans (takeScannerFrame_other other s)) rfl
    · exact exec_event (scannerBytes_crcError (f := f) hunt fits hc differs) rfl
    · exact exec_event (scannerBytes_lengthError hunt long) rfl

end Sys2Proof.Machine
end

section
/-! The scanner requests (R97, R98, R106, R113, R121): switching, the cell mask, GET_PROFILE and TAKE_REFERENCE. -/

namespace Sys2Proof.Machine

/-! ### SCAN_ENABLE (R97, R98) -/

/-- The scanner switched on, with its report (R97, R112). -/
theorem switchOn_eq (s : State) : switchOn s = { s with
    spr := { s.spr with enable := true, fouled := false, lowReturn := false, fouledRun := 0, lowRun := 0, idle := 0 }
    clp := { s.clp with waiting := s.clp.waiting ||| (0b001000000 &&& s.clp.enabled) } } :=
  queueReport_eq .scanner _

/-- The scanner switched off, with its report (R98, R112). -/
theorem switchOff_eq (s : State) : switchOff s = { s with
    spr := s.spr.off, chd := s.chd.scannerOff
    clp := { s.clp with waiting := s.clp.waiting ||| (0b001000000 &&& s.clp.enabled) } } :=
  queueReport_eq .scanner _

theorem serveScanEnable_on {s : State} (off : s.spr.enable = false) (hds : s.geo.ds ≠ none) (hw : s.geo.w ≠ none) :
    serveScanEnable 1 s = accept [] (switchOn s) :=
  (if_neg (by rw [off]; exact Bool.false_ne_true)).trans
    (if_neg (by simp [Option.isSome_iff_ne_none.2 hds, Option.isSome_iff_ne_none.2 hw]))

theorem serveScanEnable_on_again {s : State} (on : s.spr.enable = true) : serveScanEnable 1 s = accept [] s := if_pos on

theorem serveScanEnable_off {s : State} (on : s.spr.enable = true) : serveScanEnable 0 s = accept [] (switchOff s) := if_pos on

theorem serveScanEnable_off_again {s : State} (off : s.spr.enable = false) : serveScanEnable 0 s = accept [] s :=
  if_neg (by rw [off]; exact Bool.false_ne_true)

/-! ### TAKE_REFERENCE (R121) -/

theorem serveTakeReference_accepted {s : State} {r : CellRecord} (mode : s.tun.refMode ≠ .rolling)
    (latest : s.spr.latest = some r) : serveTakeReference s =
      accept (f8 r.number ++ fChainage r.scanAt ++ f8 r.mark.code) { s with chd := { s.chd with
        held := some ⟨r.cells.map (fun c => c.signature), r.number, r.scanAt⟩
        stepCount := if s.tun.refMode = .stepped then 0 else s.chd.stepCount } } := by
  rw [serveTakeReference, if_neg mode, latest]
  dsimp only
  split <;> rfl

/-! ### GET_PROFILE (R113, R202) -/

/-- The scanner condition as a byte: OFF, CLEAR, or the sum of its members (R111). -/
theorem fCondition_eq (p : Spr) : fCondition p =
    [if p.enable = false then 0x01 else if p.fouled = false ∧ p.lowReturn = false then 0x02 else
      (if p.fouled then 0x04 else 0) + (if p.lowReturn then 0x08 else 0)] := by
  rw [fCondition, fSet_four]
  cases p.enable <;> cases p.fouled <;> cases p.lowReturn <;> rfl

/-- One side's surface, age and validity (R113). -/
theorem profileSide_eq (s : State) (x : Side) : profileSide s x =
    (match s.ski x with
      | some k => 0x01 :: (bytesBE 2 k.surface ++ bytesBE 2 (min 65535 (s.now - k.instant) : Nat))
      | none => List.replicate 5 0x00) ++ [if s.skiValid x then 0x01 else 0x00] := by
  rw [profileSide]
  cases s.ski x <;> rfl

/-- One cell (R113). -/
theorem fCell_eq : fCell = fun c =>
    (match c.signature with
      | some g => 0x01 :: bytesBE 2 g
      | none => [0x00, 0x00, 0x00]) ++ bytesBE 1 c.valid ++ [if c.masked then 0x01 else 0x00] ++
    [if c.standing then 0x01 else 0x00] := by
  funext c
  rw [fCell]
  cases c.signature <;> rfl

/-- The latest cell record (R113). -/
theorem fCellRecord_eq (q : CellRecord) : fCellRecord q =
    bytesBE 1 q.number ++ bytesBE 4 q.scanAt ++ bytesBE 1 q.mark.code ++
    [if q.fouled then 0x01 else 0x00] ++ [if q.low then 0x01 else 0x00] ++ bytesBE 2 q.lineAvg ++ bytesBE 1 q.strength ++
    q.cells.flatMap (fun c =>
      (match c.signature with
        | some g => 0x01 :: bytesBE 2 g
        | none => [0x00, 0x00, 0x00]) ++ bytesBE 1 c.valid ++ [if c.masked then 0x01 else 0x00] ++
      [if c.standing then 0x01 else 0x00]) := by
  rw [fCellRecord, fCell_eq]
  rfl

/-- The awaited trigger number, absent or present (R113). -/
theorem fOpt_awaited (o : Option Awaited) : fOpt 1 f8 (o.map (·.number)) =
    match o with
      | some w => 0x01 :: bytesBE 1 w.number
      | none => [0x00, 0x00] := by
  cases o <;> rfl

/-- The latest cell record, absent or present (R113). -/
theorem fOpt_record (o : Option CellRecord) : fOpt 107 fCellRecord o =
    match o with
      | none => List.replicate 108 0x00
      | some q => 0x01 :: fCellRecord q := by
  cases o <;> rfl

/-- Settles O34: each request passes its owner's checks, and the reply to GET_PROFILE is its layout. -/
theorem scannerRequests : Obligations.ScannerRequests := by
  intro s tag cells r free
  refine ⟨fun off hds hw => ?_, fun on => ?_, fun on => ?_, fun off => ?_, fun named => ?_, ?_, fCondition_eq,
    fun mode latest => ?_⟩
  · rw [← switchOn_eq]
    exact exec_answered (q := ⟨tag, .scanEnable 1⟩) rfl free (serveScanEnable_on off hds hw)
  · exact exec_answered (q := ⟨tag, .scanEnable 1⟩) rfl free (serveScanEnable_on_again on)
  · exact exec_answered (q := ⟨tag, .scanEnable 0⟩) rfl free
      ((serveScanEnable_off on).trans (congrArg (accept []) (switchOff_eq s)))
  · exact exec_answered (q := ⟨tag, .scanEnable 0⟩) rfl free (serveScanEnable_off_again off)
  · exact exec_answered (q := ⟨tag, .setCellMask cells⟩) rfl free (if_neg named)
  · refine (exec_answered (q := ⟨tag, .getProfile⟩) rfl free rfl).trans
      (congrArg (fun l => Host.Outcome.next (withReply ⟨0xAA, tag, 0x00 :: l⟩ s)) (?_ : profileValues s = _))
    delta profileValues
    simp only [profileSide_eq, fOpt_awaited, fOpt_record, fCellRecord_eq, fScanCounters, List.flatMap_cons, List.flatMap_nil,
      List.append_assoc, List.append_nil]
    rfl
  · exact exec_answered (q := ⟨tag, .takeReference⟩) rfl free (serveTakeReference_accepted mode latest)

end Sys2Proof.Machine
end

section
/-! The line as data (R105, R107, R109 to R111): its cells, their standing-out marks, its judgements and the ski surfaces. -/

namespace Sys2Proof.Machine

/-! ### Cells and their marks (R105, R125) -/

theorem reduceLine_length (least : Int) (mask : BitVec 16) (points : List Point) :
    (reduceLine least mask points).length = 16 := by
  rw [reduceLine, List.length_map, List.length_range]

theorem reduceLine_getElem? {least : Int} {mask : BitVec 16} {points : List Point} {k : Nat} {c : Cell}
    (h : (reduceLine least mask points)[k]? = some c) : c = reduceCell least (mask.getLsbD k) (cellPoints points k) := by
  rw [reduceLine, List.getElem?_map, Option.map_eq_some_iff] at h
  obtain ⟨i, hi, rfl⟩ := h
  obtain ⟨_, rfl⟩ := List.getElem?_eq_some_iff.1 hi
  rw [List.getElem_range]

/-- A marked cell is the cell with its own mark. -/
theorem markCells_getElem? {cells : List Cell} {marks : List Bool} {k : Nat} {c : Cell} :
    (markCells cells marks)[k]? = some c ↔
      ∃ c₀ b, cells[k]? = some c₀ ∧ marks[k]? = some b ∧ { c₀ with standing := b } = c :=
  List.getElem?_zipWith_eq_some

theorem markCells_length {cells : List Cell} {marks : List Bool} (h : cells.length = marks.length) :
    (markCells cells marks).length = cells.length := by
  rw [markCells, List.length_zipWith, ← h, min_self]

/-- Marks change no signature and no mask, so what R109 reads of the cells stays. -/
theorem seenSignatures_markCells {cells : List Cell} {marks : List Bool} (h : cells.length = marks.length) :
    seenSignatures (markCells cells marks) = seenSignatures cells := by
  induction cells generalizing marks with
  | nil => rfl
  | cons c cells ih =>
    obtain ⟨b, marks, rfl⟩ := List.exists_cons_of_length_eq_add_one h.symm
    have rest := ih (marks := marks) (by simpa using h)
    unfold seenSignatures markCells at rest ⊢
    cases hm : c.masked <;> simp [hm, List.filterMap_cons, rest]

/-- With no mark given no cell stands out. -/
theorem markCells_unmarked {cells : List Cell} {n : Nat} {c : Cell} (h : c ∈ markCells cells (List.replicate n false)) :
    c.standing = false := by
  obtain ⟨k, hk⟩ := List.mem_iff_getElem?.1 h
  obtain ⟨c₀, b, -, hb, rfl⟩ := markCells_getElem?.1 hk
  exact List.eq_of_mem_replicate (List.mem_of_getElem? hb)

/-! ### The judgements (R109, R110) and the condition (R111) -/

theorem lineAverage_of_seen {cells : List Cell} (h : seenSignatures cells ≠ []) :
    lineAverage cells = some ((seenSignatures cells).sum / (seenSignatures cells).length) := by
  unfold lineAverage
  split
  next none_seen => exact absurd none_seen h
  next => rfl

/-- A line is fouled when it has no average, or by the share of its signatures near a low average (R109). -/
theorem judgedFouled_iff (t : Tuning) (cells : List Cell) : judgedFouled t cells = true ↔
    seenSignatures cells = [] ∨
      (t.fPercent * (seenSignatures cells).length ≤ 100 * (((seenSignatures cells).filter (fun (g : Nat) =>
          decide (|(g : Int) - (((seenSignatures cells).sum / (seenSignatures cells).length : Nat) : Int)| ≤ t.tf))).length : Int) ∧
        (((seenSignatures cells).sum / (seenSignatures cells).length : Nat) : Int) < t.nearLimit) := by
  by_cases none_seen : seenSignatures cells = []
  · simp [judgedFouled, lineAverage, none_seen]
  · rw [judgedFouled, lineAverage_of_seen none_seen]
    simp only [none_seen, false_or, Bool.and_eq_true, decide_eq_true_eq, mul_comm (100 : Int)]

/-- How a member of the condition moves (R111): a judgement that agrees clears the run count, one that differs takes over at the
limit and is counted below it. -/
theorem conditionStep_moves {limit : Int} {present argues after : Bool} {run count : Nat}
    (h : (after, count) = conditionStep limit present argues run) :
    (argues = present → after = present ∧ count = 0) ∧
    (argues ≠ present → limit ≤ (run : Int) + 1 → after = argues ∧ count = 0) ∧
    (argues ≠ present → (run : Int) + 1 < limit → after = present ∧ count = run + 1) := by
  refine ⟨fun agrees => ?_, fun differs reached => ?_, fun differs below => ?_⟩ <;> refine Prod.mk.inj (h.trans ?_)
  · exact if_pos agrees.symm
  · exact (if_neg differs.symm).trans (if_pos (by push_cast; exact reached))
  · exact (if_neg differs.symm).trans (if_neg (by push_cast; omega))

/-! ### The ski surfaces (R107) -/

/-- A side's published surface after a line with these cells: the mean of the cells that give one, at this instant, or the one
before. -/
def State.skiAfter (s : State) (x : Side) (cells : List Cell) : Option Ski :=
  match skiSurface (s.skiCells x) cells with
  | none => s.ski x
  | some v => some ⟨v, s.now⟩

theorem skiAfter_eq (s : State) (x : Side) (cells : List Cell) : s.skiAfter x cells =
    if skiSignatures (s.skiCells x) cells = [] then s.ski x
    else some ⟨(((skiSignatures (s.skiCells x) cells).sum / (skiSignatures (s.skiCells x) cells).length : Nat) : Int), s.now⟩ := by
  unfold State.skiAfter skiSurface
  cases skiSignatures (s.skiCells x) cells <;> rfl

theorem publishSki_L (cells : List Cell) (s : State) :
    publishSki .L cells s = { s with spr := { s.spr with skiL := s.skiAfter .L cells } } := by
  unfold publishSki State.skiAfter
  cases skiSurface (s.skiCells .L) cells <;> rfl

theorem publishSki_R (cells : List Cell) (s : State) :
    publishSki .R cells s = { s with spr := { s.spr with skiR := s.skiAfter .R cells } } := by
  unfold publishSki State.skiAfter
  cases skiSurface (s.skiCells .R) cells <;> rfl

/-- The surface of one side does not enter that of the other. -/
theorem publishSki_both (cells : List Cell) (s : State) : publishSki .R cells (publishSki .L cells s) =
    { s with spr := { s.spr with skiL := s.skiAfter .L cells, skiR := s.skiAfter .R cells } } := by
  rw [publishSki_R, publishSki_L]
  rfl

end Sys2Proof.Machine
end

section
/-! The line completion (R104): what the detector keeps at a hand-over, the states between the steps, and the record. -/

namespace Sys2Proof.Machine

/-! ### The detector at a hand-over: what it keeps, its marks and its reports (R104, R116, R125) -/

/-- The mask set and the mode in use are the same in both states. -/
def SameMask (s t : State) : Prop := t.chd.mask = s.chd.mask ∧ t.chd.mode = s.chd.mode

theorem SameMask.trans {s t u : State} (h : SameMask s t) (g : SameMask t u) : SameMask s u :=
  ⟨g.1.trans h.1, g.2.trans h.2⟩

theorem dropReference_kept (d : Chd) : d.dropReference.mask = d.mask ∧ d.dropReference.mode = d.mode := by
  unfold Chd.dropReference
  split <;> exact ⟨rfl, rfl⟩

theorem suspendHandOver_sameMask (s : State) : SameMask s (suspendHandOver s) := dropReference_kept s.chd.toQuiet

theorem checkContinuity_sameMask (c : Int) (s : State) : SameMask s (checkContinuity c s) := by
  unfold checkContinuity
  split
  · exact ⟨rfl, rfl⟩
  · exact dropReference_kept s.chd.toQuiet

theorem tripDetector_sameMask (c : Int) (s : State) : SameMask s (tripDetector c s) := by
  simp [SameMask, tripDetector]

theorem moveDetecting_sameMask (c : Int) (s : State) : SameMask s (moveDetecting c s) := by
  unfold moveDetecting
  dsimp only
  (repeat' split)
  · exact tripDetector_sameMask c { s with chd := _ }
  · exact ⟨rfl, rfl⟩
  · exact tripDetector_sameMask _ { s with chd := _ }
  · exact ⟨rfl, rfl⟩
  · exact ⟨rfl, rfl⟩

theorem moveNonDetecting_sameMask (s : State) : SameMask s (moveNonDetecting s) := by
  unfold moveNonDetecting
  (repeat' split) <;> exact ⟨rfl, rfl⟩

theorem enterLine_sameMask (l : Line) (sigs : List (Option Nat)) (s : State) : SameMask s (enterLine l sigs s) := by
  unfold enterLine SameMask
  dsimp only
  (repeat' split) <;> exact ⟨rfl, rfl⟩

theorem evaluateLine_length (s : State) (c : Int) (points : List Point) : (s.evaluateLine c points).length = 16 := by
  unfold State.evaluateLine standingMarks
  split <;> simp

/-- The state in which a line that is not suspended meets its reference: no suspension cause is recorded, and the history is
restarted where the line does not follow on (R118, R123). -/
def lineAdmitted (l : Line) (s : State) : State :=
  checkContinuity l.scanAt { s with chd := { s.chd with condition := false, geometry := false } }

theorem handOver_suspended {s : State} (h : (s.suspendCondition || s.suspendGeometry) = true) (l : Line)
    (sigs : List (Option Nat)) : handOver l sigs s = (suspendHandOver s, List.replicate 16 false) := if_pos h

theorem handOver_admitted {s : State} (h : ¬(s.suspendCondition || s.suspendGeometry) = true) (l : Line)
    (sigs : List (Option Nat)) : handOver l sigs s =
      (enterLine l sigs
        (if lineDetects (lineAdmitted l s).tun ((lineAdmitted l s).lookup l.scanAt).detect
            ((lineAdmitted l s).evaluateLine l.scanAt l.points) then moveDetecting l.scanAt (lineAdmitted l s)
          else moveNonDetecting (lineAdmitted l s)),
        (lineAdmitted l s).evaluateLine l.scanAt l.points) := if_neg h

/-- No report follows a change of CHD. -/
theorem reportsMade_chd (m : BitVec 9) (s : State) (d : Chd) : reportsMade m s { s with chd := d } :=
  reportsMade_of_kept rfl rfl rfl rfl rfl rfl rfl rfl

theorem reportsMade_checkContinuity (m : BitVec 9) (c : Int) (s : State) : reportsMade m s (checkContinuity c s) := by
  unfold checkContinuity
  split
  · exact reportsMade_chd m s s.chd
  · exact reportsMade_chd m s _

theorem reportsMade_moveNonDetecting (m : BitVec 9) (s : State) : reportsMade m s (moveNonDetecting s) := by
  unfold moveNonDetecting
  (repeat' split)
  · exact reportsMade_chd m s s.chd
  all_goals exact reportsMade_chd m s _

section
variable {m : BitVec 9} (hs : ReportKind.state.bit &&& m = ReportKind.state.bit)
  (hk : ReportKind.marker.bit &&& m = ReportKind.marker.bit)
include hs hk

/-- A trip queues MARKER, and STATE where it moves the lift-cause set (R83, R84, R86, R92). -/
theorem reportsMade_takeTrip (c : Int) (s : State) : reportsMade m s (takeTrip c s) := by
  unfold takeTrip
  split
  next k _ =>
    by_cases reached : min 20000 (max k.trail (c + s.tun.autoTrail - k.m)) = k.trail
    · rw [extendMarker_reached reached]
      exact reportsMade_of_kept rfl rfl rfl rfl rfl rfl rfl rfl
    · rw [extendMarker_beyond rfl reached]
      exact (reportsMade_markersChanged _ _ _ _ s hs).trans (reportsMade_marker hk _)
  next =>
    by_cases room : s.mlc.markers.length < 16
    · rw [createFromTrip_room c room]
      exact (reportsMade_markersChanged _ _ _ _ s hs).trans (reportsMade_marker hk _)
    · rw [createFromTrip, if_neg room]
      exact (reportsMade_of_kept rfl rfl rfl rfl rfl rfl rfl rfl).trans (reportsMade_marker hk _)

theorem reportsMade_tripDetector (c : Int) (s : State) : reportsMade m s (tripDetector c s) :=
  (reportsMade_chd m s _).trans (reportsMade_takeTrip hs hk c _)

theorem reportsMade_moveDetecting (c : Int) (s : State) : reportsMade m s (moveDetecting c s) := by
  unfold moveDetecting
  dsimp only
  (repeat' split)
  · exact (reportsMade_chd m s _).trans (reportsMade_tripDetector hs hk c _)
  · exact reportsMade_chd m s _
  · exact (reportsMade_chd m s _).trans (reportsMade_tripDetector hs hk _ _)
  · exact reportsMade_chd m s _
  · exact reportsMade_chd m s _

/-- What a hand-over gives: a mark for each cell, the mask set and the mode kept, and the reports of a trip (R116 to R128). -/
theorem handOver_spec (l : Line) (sigs : List (Option Nat)) (s : State) :
    (handOver l sigs s).2.length = 16 ∧ SameMask s (handOver l sigs s).1 ∧ reportsMade m s (handOver l sigs s).1 := by
  by_cases suspended : (s.suspendCondition || s.suspendGeometry) = true
  · rw [handOver_suspended suspended]
    exact ⟨rfl, suspendHandOver_sameMask s, reportsMade_chd m s _⟩
  · have masked : SameMask s (lineAdmitted l s) := checkContinuity_sameMask l.scanAt { s with chd := _ }
    have made : reportsMade m s (lineAdmitted l s) :=
      (reportsMade_chd m s _).trans (reportsMade_checkContinuity m l.scanAt _)
    rw [handOver_admitted suspended]
    refine ⟨evaluateLine_length _ _ _, (masked.trans ?_).trans (enterLine_sameMask l sigs _),
      (made.trans ?_).trans (reportsMade_chd m _ _)⟩
    · split
      · exact moveDetecting_sameMask l.scanAt _
      · exact moveNonDetecting_sameMask _
    · split
      · exact reportsMade_moveDetecting hs hk l.scanAt _
      · exact reportsMade_moveNonDetecting m _

/-- Step 2 for either mark of a line (R104). -/
theorem detectLine_spec (l : Line) (sigs : List (Option Nat)) (s : State) :
    (detectLine l sigs s).2.length = 16 ∧ SameMask s (detectLine l sigs s).1 ∧ reportsMade m s (detectLine l sigs s).1 := by
  unfold detectLine
  split
  next => exact handOver_spec hs hk l sigs s
  next => exact ⟨rfl, ⟨rfl, rfl⟩, reportsMade_of_kept rfl rfl rfl rfl rfl rfl rfl rfl⟩

end

theorem detectLine_idle {l : Line} (idle : l.mark = .idle) (sigs : List (Option Nat)) (s : State) :
    detectLine l sigs s = (s, List.replicate 16 false) := by
  rw [detectLine, idle]

/-! ### The condition applied (R111, R112) -/

/-- SPR after the judgements: the condition and its run counts alone have moved (R111). -/
theorem applyJudgements_spr (fouled low : Bool) (s : State) : (applyJudgements fouled low s).spr = { s.spr with
    fouled := (conditionStep s.tun.nf s.spr.fouled fouled s.spr.fouledRun).1
    fouledRun := (conditionStep s.tun.nf s.spr.fouled fouled s.spr.fouledRun).2
    lowReturn := (conditionStep s.tun.nl s.spr.lowReturn low s.spr.lowRun).1
    lowRun := (conditionStep s.tun.nl s.spr.lowReturn low s.spr.lowRun).2 } := by
  simp [applyJudgements]

theorem reportsMade_applyJudgements {m : BitVec 9} (hc : ReportKind.scanner.bit &&& m = ReportKind.scanner.bit)
    (fouled low : Bool) (s : State) : reportsMade m s (applyJudgements fouled low s) :=
  reportsMade_of_same (reportsAdded_queueIf _ .scanner hc { s with spr := _ }) (fun x => by cases x <;> simp) (by simp)
    (by simp) (by simp) (by simp) (by simp)

/-- A changed condition has its SCANNER report pending (R112). -/
theorem applyJudgements_pending {fouled low : Bool} {s : State}
    (changed : (applyJudgements fouled low s).spr.fouled ≠ s.spr.fouled ∨
      (applyJudgements fouled low s).spr.lowReturn ≠ s.spr.lowReturn)
    (enabled : s.clp.enabled.getLsbD 6 = true) : (applyJudgements fouled low s).clp.waiting.getLsbD 6 = true := by
  rw [applyJudgements_spr] at changed
  unfold applyJudgements
  dsimp only at changed ⊢
  rw [show (_ || _) = true from by simpa using changed, queueIf_true]
  exact queueReport_pending .scanner { s with spr := _ } enabled

/-! ### The states between the steps (R104) -/

section
variable (l : Line) (rest : List Line) (s : State)

/-- Step 1: the cells of the line (R105). -/
def State.lineCells : List Cell := reduceLine s.tun.pointMin s.chd.mask l.points

/-- Step 2: the line judged by the detector, with its standing-out marks. -/
def State.lineDetected : State × List Bool := detectLine l ((s.lineCells l).map (·.signature)) s

/-- The cells with the marks of the detector. -/
def State.lineMarked : List Cell := markCells (s.lineCells l) (s.lineDetected l).2

/-- Step 3: the ski surfaces are published. -/
def State.linePublished : State :=
  publishSki .R (s.lineMarked l) (publishSki .L (s.lineMarked l) (s.lineDetected l).1)

/-- Step 3: the judgements move the condition. -/
def State.lineJudged : State :=
  applyJudgements (judgedFouled s.tun (s.lineCells l)) (judgedLow s.tun s.chd.mask l.points) (s.linePublished l)

/-- Step 4: the record of the line (R113). -/
def State.lineRecord : CellRecord where
  number := l.number
  scanAt := l.scanAt
  mark := l.mark
  fouled := judgedFouled s.tun (s.lineCells l)
  low := judgedLow s.tun s.chd.mask l.points
  lineAvg := (takeLineAverage (s.lineMarked l) (s.lineJudged l)).2
  strength := averageStrength s.chd.mask l.points
  cells := s.lineMarked l

/-- The completion as its last step on the judged line (R104). -/
theorem completeLine_eq : completeLine l rest s =
    countScan (fun c => { c with completed := satInc Config.count32Max c.completed })
      { (takeLineAverage (s.lineMarked l) (s.lineJudged l)).1 with spr :=
        { (takeLineAverage (s.lineMarked l) (s.lineJudged l)).1.spr with latest := some (s.lineRecord l), buffer := rest } } :=
  rfl

end

theorem lineDetected_spec (l : Line) (s : State) : (s.lineDetected l).2.length = 16 ∧ SameMask s (s.lineDetected l).1 ∧
    reportsMade 0b001100001 s (s.lineDetected l).1 := detectLine_spec (by decide) (by decide) l _ s

theorem lineDetected_kept (l : Line) (s : State) : (s.lineDetected l).1.now = s.now ∧ (s.lineDetected l).1.mpr = s.mpr ∧
    (s.lineDetected l).1.spr = s.spr ∧ (s.lineDetected l).1.freeUsed = s.freeUsed ∧
    (s.lineDetected l).1.clp.enabled = s.clp.enabled := by
  simp [State.lineDetected]

theorem skiAfter_congr {s t : State} {x : Side} (hnow : t.now = s.now) (hmpr : t.mpr = s.mpr) (hski : t.ski x = s.ski x)
    (cells : List Cell) : t.skiAfter x cells = s.skiAfter x cells := by
  cases x <;> simp only [State.skiAfter, State.skiCells, State.tun, hnow, hmpr, hski]

/-- Both surfaces are formed from the items, the instant and the surfaces before the line (R107). -/
theorem linePublished_eq (l : Line) (s : State) : s.linePublished l = { (s.lineDetected l).1 with spr :=
    { s.spr with skiL := s.skiAfter .L (s.lineMarked l), skiR := s.skiAfter .R (s.lineMarked l) } } := by
  obtain ⟨hnow, hmpr, hspr, -⟩ := lineDetected_kept l s
  have hL : (s.lineDetected l).1.ski .L = s.ski .L := congrArg Spr.skiL hspr
  have hR : (s.lineDetected l).1.ski .R = s.ski .R := congrArg Spr.skiR hspr
  rw [State.linePublished, publishSki_both, skiAfter_congr hnow hmpr hL, skiAfter_congr hnow hmpr hR, hspr]

/-- SPR after the completion (R104, R107, R111, R114). -/
theorem completeLine_spr (l : Line) (rest : List Line) (s : State) : (completeLine l rest s).spr = { s.spr with
    buffer := rest, latest := some (s.lineRecord l)
    skiL := s.skiAfter .L (s.lineMarked l), skiR := s.skiAfter .R (s.lineMarked l)
    fouled := (conditionStep s.tun.nf s.spr.fouled (s.lineRecord l).fouled s.spr.fouledRun).1
    fouledRun := (conditionStep s.tun.nf s.spr.fouled (s.lineRecord l).fouled s.spr.fouledRun).2
    lowReturn := (conditionStep s.tun.nl s.spr.lowReturn (s.lineRecord l).low s.spr.lowRun).1
    lowRun := (conditionStep s.tun.nl s.spr.lowReturn (s.lineRecord l).low s.spr.lowRun).2
    counters := { s.spr.counters with completed := satInc Config.count32Max s.spr.counters.completed } } := by
  have judged : (s.lineJudged l).spr = _ := applyJudgements_spr (s.lineRecord l).fouled (s.lineRecord l).low (s.linePublished l)
  have tuning : (s.linePublished l).tun = s.tun := by
    rw [linePublished_eq]
    exact congrArg (·.params.tun) (lineDetected_kept l s).2.1
  have averaged : (takeLineAverage (s.lineMarked l) (s.lineJudged l)).1.spr = (s.lineJudged l).spr := by simp
  rw [tuning, linePublished_eq] at judged
  rw [completeLine_eq, averaged, judged]
  rfl

/-- Beside SPR and the count of free values the completion leaves what the detector and the condition have made. -/
theorem completeLine_kept (l : Line) (rest : List Line) (s : State) :
    (completeLine l rest s).chd = (s.lineDetected l).1.chd ∧ (completeLine l rest s).mlc = (s.lineDetected l).1.mlc ∧
    (completeLine l rest s).clp = (s.lineJudged l).clp := by
  simp [completeLine_eq, State.lineJudged, State.linePublished]

/-- With a line average no free value is used (R109, log entry 12). -/
theorem takeLineAverage_of_seen {cells : List Cell} (h : seenSignatures cells ≠ []) (s : State) :
    takeLineAverage cells s = (s, (seenSignatures cells).sum / (seenSignatures cells).length) := by
  rw [takeLineAverage, lineAverage_of_seen h]

theorem completeLine_freeUsed {l : Line} {s : State} (h : seenSignatures (s.lineMarked l) ≠ []) (rest : List Line) :
    (completeLine l rest s).freeUsed = s.freeUsed := by
  rw [completeLine_eq, takeLineAverage_of_seen h]
  simp [State.lineJudged, State.linePublished, State.lineDetected]

/-- The completion queues what a trip and a changed condition call for (R86, R92, R112). -/
theorem reportsMade_completeLine (l : Line) (rest : List Line) (s : State) :
    reportsMade 0b001100001 s (completeLine l rest s) := by
  have detected := (lineDetected_spec l s).2.2
  have published : reportsMade 0b001100001 (s.lineDetected l).1 (s.linePublished l) := by
    rw [linePublished_eq]
    exact reportsMade_of_kept rfl rfl rfl rfl rfl rfl rfl rfl
  have judged : reportsMade 0b001100001 (s.linePublished l) (s.lineJudged l) := reportsMade_applyJudgements (by decide) _ _ _
  have completed : reportsMade 0b001100001 (s.lineJudged l) (completeLine l rest s) := by
    apply reportsMade_of_kept <;> simp [completeLine_eq]
  exact ((detected.trans published).trans judged).trans completed

/-- A changed condition has its SCANNER report pending after the completion (R112). -/
theorem completeLine_pending {l : Line} {rest : List Line} {s : State}
    (changed : (completeLine l rest s).spr.fouled ≠ s.spr.fouled ∨ (completeLine l rest s).spr.lowReturn ≠ s.spr.lowReturn)
    (enabled : s.clp.enabled.getLsbD 6 = true) : (completeLine l rest s).clp.waiting.getLsbD 6 = true := by
  have before : (s.linePublished l).spr.fouled = s.spr.fouled ∧ (s.linePublished l).spr.lowReturn = s.spr.lowReturn := by
    rw [linePublished_eq]
    exact ⟨rfl, rfl⟩
  have after : (completeLine l rest s).spr.fouled = (s.lineJudged l).spr.fouled ∧
      (completeLine l rest s).spr.lowReturn = (s.lineJudged l).spr.lowReturn := by
    simp [completeLine_eq, countScan]
  rw [(completeLine_kept l rest s).2.2]
  refine applyJudgements_pending ?_ ?_
  · rwa [before.1, before.2, ← State.lineJudged, ← after.1, ← after.2]
  · rwa [linePublished_eq, (lineDetected_kept l s).2.2.2.2]

/-! ### The record (R105, R109, R113) -/

theorem lineMarks_length (l : Line) (s : State) : (s.lineCells l).length = (s.lineDetected l).2.length :=
  (reduceLine_length _ _ _).trans (lineDetected_spec l s).1.symm

/-- A cell of the record: its valid points, its mask and its signature (R105). -/
theorem lineRecord_cell {l : Line} {s : State} {k : Nat} {c : Cell} (h : (s.lineRecord l).cells[k]? = some c)
    {good : List Point} (hgood : good = (cellPoints l.points k).filter (pointValid s.tun.pointMin)) :
    c.valid = good.length ∧ c.masked = s.chd.mask.getLsbD k ∧
    c.signature = (if 2 ≤ good.length then some ((good.map (fun q => q.range)).sum / good.length) else none) := by
  obtain ⟨c₀, b, hc₀, -, rfl⟩ := markCells_getElem?.1 h
  rw [reduceLine_getElem? hc₀, hgood]
  exact ⟨rfl, rfl, rfl⟩

/-- The record is fouled by what its own cells show, and has their average (R109). -/
theorem lineRecord_seen (l : Line) (s : State) :
    seenSignatures (s.lineRecord l).cells = seenSignatures (s.lineCells l) := seenSignatures_markCells (lineMarks_length l s)

/-- Settles O31: the cells, the judgements and the surfaces as the record and SPR hold them. -/
theorem lineCompletionTaken : Obligations.LineCompletionTaken := by
  intro s l rest buffered
  have completes : lineCompletion s = completeLine l rest s := by rw [lineCompletion, buffered]
  have hspr := completeLine_spr l rest s
  obtain ⟨hchd, hmlc, -⟩ := completeLine_kept l rest s
  obtain ⟨hmask, hmode⟩ := (lineDetected_spec l s).2.1
  obtain ⟨fouled_agrees, fouled_follows, fouled_counts⟩ := conditionStep_moves
    (after := (completeLine l rest s).spr.fouled) (count := (completeLine l rest s).spr.fouledRun) (by rw [hspr])
  obtain ⟨low_agrees, low_follows, low_counts⟩ := conditionStep_moves
    (after := (completeLine l rest s).spr.lowReturn) (count := (completeLine l rest s).spr.lowRun) (by rw [hspr])
  refine ⟨completeLine l rest s, s.lineRecord l, exec_event completes rfl, rfl, rfl, rfl, ?_,
    fun k c good hc hgood => lineRecord_cell hc hgood, fun seen hseen => ?_, fun pts hpts => ?_,
    fun x range used hrange hused => ?_, fouled_agrees, fouled_follows, fouled_counts, low_agrees, low_follows, low_counts,
    completeLine_pending, fun idle => ?_, ?_, ?_, ?_, reportsMade_completeLine l rest s, ?_⟩
  · exact (markCells_length (lineMarks_length l s)).trans (reduceLine_length _ _ _)
  · obtain rfl : seen = seenSignatures (s.lineMarked l) := hseen
    refine ⟨?_, fun some_seen => ⟨?_, completeLine_freeUsed some_seen rest⟩⟩
    · rw [show seenSignatures (s.lineMarked l) = seenSignatures (s.lineCells l) from lineRecord_seen l s]
      exact judgedFouled_iff s.tun (s.lineCells l)
    · exact congrArg Prod.snd (takeLineAverage_of_seen some_seen (s.lineJudged l))
  · obtain rfl : pts = unmaskedPoints s.chd.mask l.points := hpts
    exact ⟨rfl, decide_eq_true_iff⟩
  · have published : (completeLine l rest s).ski x = s.skiAfter x (s.lineMarked l) := by
      cases x <;> simp only [State.ski, hspr]
    obtain rfl : range = s.skiCells x := by cases x <;> exact hrange
    rw [published, skiAfter_eq, hused]
    rfl
  · have undetected := detectLine_idle idle ((s.lineCells l).map (·.signature)) s
    refine ⟨by rw [hchd, State.lineDetected, undetected], by rw [hmlc, State.lineDetected, undetected], fun c hc => ?_⟩
    refine markCells_unmarked (cells := s.lineCells l) (n := 16) ?_
    rwa [State.lineRecord, State.lineMarked, State.lineDetected, undetected] at hc
  · rw [hspr]
    rfl
  · rw [hchd, hmask]
  · rw [hchd, hmode]
  · apply State.eq_of_fields <;> simp

end Sys2Proof.Machine
end

section
/-! The detector's judgement of a line: the reference of each mode (R119 to R121), the cell test (R125) and when a line detects
(R126). -/

namespace Sys2Proof.Machine

/-! ### The reference (R119 to R121) -/

theorem reference_rolling {s : State} (rolling : s.chd.mode = .rolling) :
    s.reference = (s.chd.history[s.tun.k.toNat - 1]?).map (fun e => e.sigs) := by
  rw [State.reference, rolling]

/-- ROLLING has no reference until the history holds k entries (R119). -/
theorem reference_rolling_short {s : State} (rolling : s.chd.mode = .rolling) (short : (s.chd.history.length : Int) < s.tun.k) :
    s.reference = none := by
  rw [reference_rolling rolling, List.getElem?_eq_none (by omega), Option.map_none]

theorem reference_held {s : State} (mode : s.chd.mode ≠ .rolling) : s.reference = s.chd.held.map (fun r => r.sigs) := by
  unfold State.reference
  split
  next rolling => exact absurd rolling mode
  next => rfl
  next => rfl

/-! ### The cell test (R125) -/

theorem differenceCount_eq (least threshold : Int) (ref : Nat) (points : List Point) :
    differenceCount least threshold ref points = (points.filter (fun q =>
      decide (least ≤ q.strength) && decide (500 ≤ q.range) && decide (q.range ≤ 20000) &&
      decide (threshold < |(q.range : Int) - ref|))).length := by
  rw [differenceCount, List.filter_filter]
  exact congrArg (fun p => (points.filter p).length) (funext fun q => Bool.and_comm _ _)

theorem standsOut_iff (t : Tuning) (mask : BitVec 16) (ref : Option (List (Option Nat))) (points : List Point) (k : Nat) :
    standsOut t mask ref points k = true ↔ mask.getLsbD k = false ∧ ∃ sigs sig, ref = some sigs ∧ sigs[k]? = some (some sig) ∧
      t.ns ≤ (differenceCount t.pointMin t.t sig (cellPoints points k) : Int) := by
  unfold standsOut
  cases mask.getLsbD k with
  | true => simp
  | false =>
    cases ref with
    | none => simp
    | some sigs => rcases h : sigs[k]? with _ | _ | sig <;> simp [List.getD_eq_getElem?_getD, h]

/-- A mark of the line is the test of its cell, and no cell stands out where DETECT is no (R124, R125). -/
theorem evaluateLine_getElem? {s : State} {c : Int} {points : List Point} {k : Nat} {b : Bool}
    (h : (s.evaluateLine c points)[k]? = some b) :
    b = true ↔ (s.lookup c).detect = true ∧ standsOut s.tun s.chd.mask s.reference points k = true := by
  unfold State.evaluateLine at h
  cases detect : (s.lookup c).detect with
  | true =>
    rw [detect, if_pos rfl, standingMarks, List.getElem?_map, Option.map_eq_some_iff] at h
    obtain ⟨i, hi, rfl⟩ := h
    obtain ⟨_, rfl⟩ := List.getElem?_eq_some_iff.1 hi
    rw [List.getElem_range]
    exact (and_iff_right rfl).symm
  | false =>
    rw [detect, if_neg Bool.false_ne_true] at h
    rw [List.eq_of_mem_replicate (List.mem_of_getElem? h)]
    simp

theorem evaluateLine_congr {s t : State} (hplan : t.plt.plan = s.plt.plan) (hmpr : t.mpr = s.mpr)
    (hmask : t.chd.mask = s.chd.mask) (href : t.reference = s.reference) (c : Int) (points : List Point) :
    t.evaluateLine c points = s.evaluateLine c points := by
  simp only [State.evaluateLine, lookup_congr hplan hmpr, State.tun, hmpr, hmask, href]

/-- Without a reference no cell stands out (R125). -/
theorem evaluateLine_of_no_reference {s : State} (h : s.reference = none) (c : Int) (points : List Point) :
    s.evaluateLine c points = List.replicate 16 false := by
  refine List.eq_replicate_iff.2 ⟨evaluateLine_length s c points, fun b hb => ?_⟩
  obtain ⟨k, hk⟩ := List.mem_iff_getElem?.1 hb
  have test := evaluateLine_getElem? hk
  rw [standsOut_iff, h] at test
  simpa using test

/-! ### A line that detects (R126) -/

/-- The line detects against the reference of this state (R126). -/
def State.detectsLine (s : State) (l : Line) : Bool :=
  lineDetects s.tun (s.lookup l.scanAt).detect (s.evaluateLine l.scanAt l.points)

theorem detectsLine_iff (s : State) (l : Line) : s.detectsLine l = true ↔ (s.lookup l.scanAt).detect = true ∧
    s.tun.nc ≤ (((s.evaluateLine l.scanAt l.points).filter id).length : Int) := by
  rw [State.detectsLine, lineDetects, Bool.and_eq_true, decide_eq_true_iff]

/-- Without a reference a line does not detect, since Nc is at least 1 (R126). -/
theorem detectsLine_of_no_reference {s : State} (h : s.reference = none) (hnc : 1 ≤ s.tun.nc) (l : Line) :
    s.detectsLine l = false := by
  rw [← Bool.not_eq_true, detectsLine_iff, evaluateLine_of_no_reference h]
  rintro ⟨-, reached⟩
  have unmarked : ((List.replicate 16 false).filter id).length = 0 := rfl
  rw [unmarked] at reached
  omega

end Sys2Proof.Machine
end

section
/-! The run state of the detector (R127, R128): what each move makes of CHD and of MLC. -/

namespace Sys2Proof.Machine

/-! ### A trip (R128) -/

theorem setCauses_mlc_with_chd (c : LiftCauses) (s : State) (d : Chd) :
    (setCauses c { s with chd := d }).mlc = (setCauses c s).mlc := by
  unfold setCauses
  split
  · rfl
  · rw [queueReport_mlc, queueReport_mlc]
    rfl

theorem markersChanged_mlc_with_chd (kind : MarkerEventKind) (k : Marker) (ks : List Marker) (nextId : Nat) (s : State)
    (d : Chd) : (markersChanged kind k ks nextId { s with chd := d }).mlc = (markersChanged kind k ks nextId s).mlc := by
  have window : (reformWindow { relisted ks nextId s with chd := d }).mlc = (reformWindow (relisted ks nextId s)).mlc :=
    setCauses_mlc_with_chd _ _ d
  exact congrArg (fun x : Mlc => { x with
    eventCount := wrapInc x.eventCount, lastEvent := ⟨kind, k.id, k.m, k.lead, k.trail, k.origin⟩ }) window

/-- MLC takes a trip whatever the detector holds. -/
theorem takeTrip_mlc_with_chd (c : Int) (s : State) (d : Chd) : (takeTrip c { s with chd := d }).mlc = (takeTrip c s).mlc := by
  unfold takeTrip
  dsimp only
  split
  next k _ =>
    by_cases reached : min 20000 (max k.trail (c + s.tun.autoTrail - k.m)) = k.trail
    · rw [extendMarker_reached reached, extendMarker_reached (s := { s with chd := d }) reached]
    · rw [extendMarker_beyond rfl reached, extendMarker_beyond (s := { s with chd := d }) rfl reached, queueReport_mlc,
        queueReport_mlc]
      exact markersChanged_mlc_with_chd _ _ _ _ s d
  next =>
    by_cases room : s.mlc.markers.length < 16
    · rw [createFromTrip_room c room, createFromTrip_room (s := { s with chd := d }) c room, queueReport_mlc, queueReport_mlc]
      exact markersChanged_mlc_with_chd _ _ _ _ s d
    · rw [createFromTrip_full c (not_lt.1 room), createFromTrip_full (s := { s with chd := d }) c (not_lt.1 room)]

/-- CHD after a trip from the run start (R128). -/
def Chd.tripped (start : Int) (d : Chd) : Chd :=
  { d with det := .tripped, quiet := 0, trips := satInc Config.count16Max d.trips, lastTrip := some start }

theorem tripDetector_chd (start : Int) (s : State) : (tripDetector start s).chd = s.chd.tripped start := by
  simp [tripDetector, Chd.tripped]

theorem tripDetector_mlc (start : Int) (s : State) : (tripDetector start s).mlc = (takeTrip start s).mlc :=
  takeTrip_mlc_with_chd start s _

/-! ### The moves (R127) -/

section
variable {c : Int} {s : State}

theorem moveDetecting_starts (quiet : s.chd.det = .quiet) (more : 1 < s.tun.nt) :
    moveDetecting c s = { s with chd := { s.chd with det := .counting, n := 1, runStart := some c } } := by
  rw [moveDetecting, quiet]
  exact if_neg (not_le.2 more)

theorem moveDetecting_trips_at_once (quiet : s.chd.det = .quiet) (one : s.tun.nt ≤ 1) : moveDetecting c s =
    tripDetector c { s with chd := { s.chd with det := .counting, n := 1, runStart := some c } } := by
  rw [moveDetecting, quiet]
  exact if_pos one

theorem moveDetecting_counts (counting : s.chd.det = .counting) (more : (s.chd.n : Int) + 1 < s.tun.nt) :
    moveDetecting c s = { s with chd := { s.chd with n := s.chd.n + 1 } } := by
  rw [moveDetecting, counting]
  exact if_neg (not_le.2 (by push_cast; exact more))

theorem moveDetecting_trips {start : Int} (counting : s.chd.det = .counting) (reached : s.tun.nt ≤ (s.chd.n : Int) + 1)
    (run : s.chd.runStart = some start) :
    moveDetecting c s = tripDetector start { s with chd := { s.chd with n := s.chd.n + 1 } } := by
  rw [moveDetecting, counting, run]
  exact if_pos (by push_cast; exact reached)

theorem moveDetecting_tripped (tripped : s.chd.det = .tripped) :
    moveDetecting c s = { s with chd := { s.chd with quiet := 0 } } := by
  rw [moveDetecting, tripped]

theorem moveNonDetecting_quiet (quiet : s.chd.det = .quiet) : moveNonDetecting s = s := by
  rw [moveNonDetecting, quiet]

theorem moveNonDetecting_counting (counting : s.chd.det = .counting) :
    moveNonDetecting s = { s with chd := s.chd.toQuiet } := by
  rw [moveNonDetecting, counting]

theorem moveNonDetecting_counts (tripped : s.chd.det = .tripped) (more : (s.chd.quiet : Int) + 1 < s.tun.nt) :
    moveNonDetecting s = { s with chd := { s.chd with quiet := s.chd.quiet + 1 } } := by
  rw [moveNonDetecting, tripped]
  exact if_neg (not_le.2 (by push_cast; exact more))

theorem moveNonDetecting_ends (tripped : s.chd.det = .tripped) (reached : s.tun.nt ≤ (s.chd.quiet : Int) + 1) :
    moveNonDetecting s = { s with chd := s.chd.toQuiet } := by
  rw [moveNonDetecting, tripped]
  exact if_pos (by push_cast; exact reached)

end

/-- The run state of CHD moved, and nothing else of it. -/
def RunMoved (d e : Chd) : Prop :=
  e = { d with det := e.det, n := e.n, quiet := e.quiet, runStart := e.runStart, trips := e.trips, lastTrip := e.lastTrip }

theorem moveNonDetecting_runMoved (s : State) : RunMoved s.chd (moveNonDetecting s).chd := by
  unfold moveNonDetecting
  (repeat' split) <;> rfl

theorem moveDetecting_runMoved (c : Int) (s : State) : RunMoved s.chd (moveDetecting c s).chd := by
  unfold moveDetecting
  dsimp only
  (repeat' split)
  · rw [tripDetector_chd]
    rfl
  · rfl
  · rw [tripDetector_chd]
    rfl
  · rfl
  · rfl

end Sys2Proof.Machine
end

section
/-! The hand-over of a new-ground line as the completion performs it (R116 to R118, R120, R123): the state in which the line
meets its reference, the move of the run state, and the line's entry into the history. -/

namespace Sys2Proof.Machine

/-! ### The marked cells (R105, R125) -/

theorem map_markCells {β : Type} {f : Cell → β} {g : Cell × Bool → β} (h : ∀ c b, f { c with standing := b } = g (c, b))
    (cells : List Cell) (marks : List Bool) : (markCells cells marks).map f = (cells.zip marks).map g := by
  rw [markCells, List.map_zipWith, List.map_zip_eq_zipWith]
  exact congrArg (fun k => List.zipWith k cells marks) (funext₂ h)

theorem markCells_signatures {cells : List Cell} {marks : List Bool} (h : cells.length = marks.length) :
    (markCells cells marks).map (fun c => c.signature) = cells.map (fun c => c.signature) := by
  rw [map_markCells (g := (fun c => c.signature) ∘ Prod.fst) (fun _ _ => rfl), ← List.map_map, List.map_fst_zip h.le]

theorem markCells_standing {cells : List Cell} {marks : List Bool} (h : cells.length = marks.length) :
    (markCells cells marks).map (fun c => c.standing) = marks := by
  rw [map_markCells (g := Prod.snd) (fun _ _ => rfl), List.map_snd_zip h.ge]

/-! ### The line admitted (R118, R123) -/

/-- The detector is not suspended (R123). -/
def State.handOverOpen (s : State) : Prop := ¬(s.suspendCondition || s.suspendGeometry) = true

theorem suspendGeometry_iff {s : State} {dd ds : Int} (hdd : s.geo.dd = some dd) (hds : s.geo.ds = some ds) :
    s.suspendGeometry = true ↔ ds ≤ dd := by
  rw [State.suspendGeometry, hdd, hds]
  exact decide_eq_true_iff

theorem suspendCondition_iff (s : State) : s.suspendCondition = true ↔ s.spr.fouled = true ∨ s.spr.lowReturn = true :=
  Bool.or_eq_true_iff

theorem handOverOpen_of {s : State} {dd ds : Int} (hdd : s.geo.dd = some dd) (hds : s.geo.ds = some ds) (apart : dd < ds)
    (clean : s.spr.fouled = false) (strong : s.spr.lowReturn = false) : s.handOverOpen := by
  rw [State.handOverOpen, Bool.or_eq_true_iff, suspendCondition_iff, suspendGeometry_iff hdd hds, clean, strong]
  simpa using apart

theorem followsOn_iff {last : Option Int} {pitch c : Int} :
    Machine.followsOn last pitch c = true ↔ ∀ e, last = some e → e < c ∧ c ≤ e + 8 * pitch := by
  cases last <;> simp [Machine.followsOn]

/-- No suspension cause is recorded (R123). -/
def Chd.unsuspended (d : Chd) : Chd := { d with condition := false, geometry := false }

theorem lineAdmitted_follows {l : Line} {s : State}
    (follows : ∀ e, s.chd.lastAt = some e → e < l.scanAt ∧ l.scanAt ≤ e + 8 * s.tun.scanPitch) :
    lineAdmitted l s = { s with chd := s.chd.unsuspended } := if_pos (followsOn_iff.2 follows)

/-- A line that does not follow on restarts the history (R118). -/
theorem lineAdmitted_restarts {l : Line} {s : State} {e : Int} (last : s.chd.lastAt = some e)
    (apart : l.scanAt ≤ e ∨ e + 8 * s.tun.scanPitch < l.scanAt) :
    lineAdmitted l s = { s with chd := { s.chd.unsuspended.toQuiet.dropReference with history := [] } } :=
  if_neg fun follows => by
    obtain ⟨after, near⟩ : e < l.scanAt ∧ l.scanAt ≤ e + 8 * s.tun.scanPitch := followsOn_iff.1 follows e last
    omega

theorem lineAdmitted_mode (l : Line) (s : State) : (lineAdmitted l s).chd.mode = s.chd.mode :=
  (checkContinuity_sameMask l.scanAt { s with chd := s.chd.unsuspended }).2

theorem lineAdmitted_with (l : Line) (s : State) : lineAdmitted l s = { s with chd := (lineAdmitted l s).chd } := by
  unfold lineAdmitted checkContinuity
  split <;> rfl

theorem dropReference_held {d : Chd} (held : d.mode = .held) : d.dropReference = d := by
  rw [Chd.dropReference, held]

theorem dropReference_dropped {d : Chd} (mode : d.mode ≠ .held) :
    d.dropReference = { d with held := none, stepCount := 0 } := by
  unfold Chd.dropReference
  split
  next => rfl
  next => rfl
  next held => exact absurd held mode

/-- Where the reference is that of the state before, so are the marks and the judgement of the line. -/
theorem lineAdmitted_judges {l : Line} {s : State} (href : (lineAdmitted l s).reference = s.reference) :
    (lineAdmitted l s).evaluateLine l.scanAt l.points = s.evaluateLine l.scanAt l.points ∧
    (lineAdmitted l s).detectsLine l = s.detectsLine l := by
  have mask : (lineAdmitted l s).chd.mask = s.chd.mask :=
    (checkContinuity_sameMask l.scanAt { s with chd := s.chd.unsuspended }).1
  have plt : (lineAdmitted l s).plt = s.plt := by rw [lineAdmitted_with]
  have mpr : (lineAdmitted l s).mpr = s.mpr := by rw [lineAdmitted_with]
  have marks := evaluateLine_congr (by rw [plt]) mpr mask href l.scanAt l.points
  refine ⟨marks, ?_⟩
  rw [State.detectsLine, State.detectsLine, marks, lookup_congr (by rw [plt]) mpr, State.tun, State.tun, mpr]

/-! ### The move of the run state (R127) -/

/-- The state after the move of the run state (R127). -/
def lineMoved (l : Line) (s : State) : State :=
  if (lineAdmitted l s).detectsLine l then moveDetecting l.scanAt (lineAdmitted l s) else moveNonDetecting (lineAdmitted l s)

theorem lineMoved_detects {l : Line} {s : State} (h : (lineAdmitted l s).detectsLine l = true) :
    lineMoved l s = moveDetecting l.scanAt (lineAdmitted l s) := if_pos h

theorem lineMoved_not {l : Line} {s : State} (h : ¬(lineAdmitted l s).detectsLine l = true) :
    lineMoved l s = moveNonDetecting (lineAdmitted l s) := if_neg h

theorem lineMoved_runMoved (l : Line) (s : State) : RunMoved (lineAdmitted l s).chd (lineMoved l s).chd := by
  unfold lineMoved
  split
  · exact moveDetecting_runMoved _ _
  · exact moveNonDetecting_runMoved _

theorem lineMoved_mpr (l : Line) (s : State) : (lineMoved l s).mpr = s.mpr := by
  have admitted : (lineAdmitted l s).mpr = s.mpr := by rw [lineAdmitted_with]
  unfold lineMoved
  split <;> simp [admitted]

/-! ### The line enters the history (R117, R120) -/

section
variable (l : Line) (sigs : List (Option Nat)) {s : State}

theorem enterLine_chd (s : State) : (enterLine l sigs s).chd = { s.chd with
    history := (HistEntry.mk sigs l.scanAt :: s.chd.history).take 32, lastAt := some l.scanAt
    held := (enterLine l sigs s).chd.held, stepCount := (enterLine l sigs s).chd.stepCount } := by
  unfold enterLine
  dsimp only
  (repeat' split) <;> rfl

theorem enterLine_keeps_reference (mode : s.chd.mode ≠ .stepped) :
    (enterLine l sigs s).chd.held = s.chd.held ∧ (enterLine l sigs s).chd.stepCount = s.chd.stepCount := by
  unfold enterLine
  dsimp only
  split
  next stepped => exact absurd stepped mode
  next => exact ⟨rfl, rfl⟩
  next => exact ⟨rfl, rfl⟩

theorem enterLine_refreshes (stepped : s.chd.mode = .stepped) (reached : s.tun.k ≤ (s.chd.stepCount : Int) + 1) :
    (enterLine l sigs s).chd.held = some ⟨sigs, l.number, l.scanAt⟩ ∧ (enterLine l sigs s).chd.stepCount = 0 := by
  simp [enterLine, stepped, reached]

theorem enterLine_counts (stepped : s.chd.mode = .stepped) (more : (s.chd.stepCount : Int) + 1 < s.tun.k) :
    (enterLine l sigs s).chd.held = s.chd.held ∧ (enterLine l sigs s).chd.stepCount = s.chd.stepCount + 1 := by
  simp [enterLine, stepped, not_le.2 more]

end

/-! ### The completion of a new-ground line (R104) -/

/-- The signatures of the line, as the history and a reference keep them (R117). -/
def State.lineSigs (l : Line) (s : State) : List (Option Nat) := (s.lineCells l).map (fun c => c.signature)

theorem lineDetected_newGround {l : Line} (mark : l.mark = .newGround) (s : State) :
    s.lineDetected l = handOver l (s.lineSigs l) s := by
  rw [State.lineDetected, detectLine, mark]
  rfl

theorem completeLine_suspended {l : Line} (mark : l.mark = .newGround) {s : State}
    (suspended : (s.suspendCondition || s.suspendGeometry) = true) (rest : List Line) :
    (completeLine l rest s).chd = (suspendHandOver s).chd ∧ (completeLine l rest s).mlc = s.mlc := by
  obtain ⟨hchd, hmlc, -⟩ := completeLine_kept l rest s
  rw [hchd, hmlc, lineDetected_newGround mark, handOver_suspended suspended]
  exact ⟨rfl, rfl⟩

section
variable {l : Line} {s : State} (mark : l.mark = .newGround) (opened : s.handOverOpen) (rest : List Line)
include mark opened

theorem lineDetected_open : s.lineDetected l =
    (enterLine l (s.lineSigs l) (lineMoved l s), (lineAdmitted l s).evaluateLine l.scanAt l.points) := by
  rw [lineDetected_newGround mark, handOver_admitted opened]
  rfl

/-- The run state moves, and the line enters the history of the admitted state (R117, R127). -/
theorem completeLine_open {m : State} (moved : lineMoved l s = m) :
    (completeLine l rest s).chd = { m.chd with
      history := (HistEntry.mk (s.lineSigs l) l.scanAt :: (lineAdmitted l s).chd.history).take 32, lastAt := some l.scanAt
      held := (completeLine l rest s).chd.held, stepCount := (completeLine l rest s).chd.stepCount } ∧
    (completeLine l rest s).mlc = m.mlc := by
  subst moved
  obtain ⟨hchd, hmlc, -⟩ := completeLine_kept l rest s
  have history : (lineMoved l s).chd.history = (lineAdmitted l s).chd.history := by rw [lineMoved_runMoved l s]
  rw [hchd, hmlc, lineDetected_open mark opened, ← history]
  exact ⟨enterLine_chd l _ _, by simp⟩

/-- The held reference and the step count after the line has entered (R120, R121). -/
theorem completeLine_reference :
    (s.chd.mode ≠ .stepped → (completeLine l rest s).chd.held = (lineAdmitted l s).chd.held ∧
      (completeLine l rest s).chd.stepCount = (lineAdmitted l s).chd.stepCount) ∧
    (s.chd.mode = .stepped → s.tun.k ≤ ((lineAdmitted l s).chd.stepCount : Int) + 1 →
      (completeLine l rest s).chd.held = some ⟨s.lineSigs l, l.number, l.scanAt⟩ ∧
      (completeLine l rest s).chd.stepCount = 0) ∧
    (s.chd.mode = .stepped → ((lineAdmitted l s).chd.stepCount : Int) + 1 < s.tun.k →
      (completeLine l rest s).chd.held = (lineAdmitted l s).chd.held ∧
      (completeLine l rest s).chd.stepCount = (lineAdmitted l s).chd.stepCount + 1) := by
  obtain ⟨hchd, -, -⟩ := completeLine_kept l rest s
  have run := lineMoved_runMoved l s
  have mode : (lineMoved l s).chd.mode = s.chd.mode := by rw [run, ← lineAdmitted_mode l s]
  have held : (lineMoved l s).chd.held = (lineAdmitted l s).chd.held := by rw [run]
  have steps : (lineMoved l s).chd.stepCount = (lineAdmitted l s).chd.stepCount := by rw [run]
  have tuning : (lineMoved l s).tun = s.tun := congrArg (·.params.tun) (lineMoved_mpr l s)
  rw [hchd, lineDetected_open mark opened, ← held, ← steps, ← mode, ← tuning]
  exact ⟨enterLine_keeps_reference l _, enterLine_refreshes l _, enterLine_counts l _⟩

/-- The cells of the record: their signatures are those of the line, their marks the ones of the admitted state (R105, R125). -/
theorem lineRecord_open : (s.lineRecord l).cells.map (fun c => c.signature) = s.lineSigs l ∧
    (s.lineRecord l).cells.map (fun c => c.standing) = (lineAdmitted l s).evaluateLine l.scanAt l.points := by
  have marks : (s.lineDetected l).2 = (lineAdmitted l s).evaluateLine l.scanAt l.points := by
    rw [lineDetected_open mark opened]
  rw [← marks]
  exact ⟨markCells_signatures (lineMarks_length l s), markCells_standing (lineMarks_length l s)⟩

end

end Sys2Proof.Machine
end

section
/-! The hand-over to the detector (O32): suspended, or with a line that follows on. -/

namespace Sys2Proof.Machine

theorem exec_lineCompletion {s : State} {l : Line} {rest : List Line} (buffered : s.spr.buffer = l :: rest) :
    exec .lineCompletion s = .next (startTx (completeLine l rest s)) :=
  exec_event (show lineCompletion s = completeLine l rest s by rw [lineCompletion, buffered]) rfl

section
variable {l : Line} {s : State} (mark : l.mark = .newGround) (opened : s.handOverOpen) (rest : List Line)
include mark opened

/-- A move within CHD reaches the state after the completion, and MLC is left (R127). -/
theorem completeLine_moved {d : Chd} (moved : lineMoved l s = { s with chd := d }) :
    (completeLine l rest s).chd.det = d.det ∧ (completeLine l rest s).chd.n = d.n ∧
    (completeLine l rest s).chd.quiet = d.quiet ∧ (completeLine l rest s).chd.runStart = d.runStart ∧
    (completeLine l rest s).chd.trips = d.trips ∧ (completeLine l rest s).mlc = s.mlc := by
  obtain ⟨hchd, hmlc⟩ := completeLine_open mark opened rest moved
  rw [hchd, hmlc]
  exact ⟨rfl, rfl, rfl, rfl, rfl, rfl⟩

/-- A trip reaches the state after the completion, and MLC has taken the run start (R128). -/
theorem completeLine_tripped {start : Int} {d : Chd} (moved : lineMoved l s = tripDetector start { s with chd := d }) :
    (completeLine l rest s).chd.det = .tripped ∧ (completeLine l rest s).chd.lastTrip = some start ∧
    (completeLine l rest s).chd.quiet = 0 ∧
    (completeLine l rest s).chd.trips = (if d.trips < 65535 then d.trips + 1 else 65535) ∧
    (completeLine l rest s).mlc = (takeTrip start s).mlc := by
  obtain ⟨hchd, hmlc⟩ := completeLine_open mark opened rest moved
  rw [hchd, hmlc, tripDetector_chd, tripDetector_mlc, takeTrip_mlc_with_chd]
  exact ⟨rfl, rfl, rfl, rfl, rfl⟩

/-- The line enters the history, and no suspension cause is recorded (R117, R123). -/
theorem completeLine_history :
    (completeLine l rest s).chd.history =
      (HistEntry.mk (s.lineSigs l) l.scanAt :: (lineAdmitted l s).chd.history).take 32 ∧
    (completeLine l rest s).chd.lastAt = some l.scanAt ∧
    (completeLine l rest s).chd.condition = (lineAdmitted l s).chd.condition ∧
    (completeLine l rest s).chd.geometry = (lineAdmitted l s).chd.geometry := by
  obtain ⟨hchd, -⟩ := completeLine_open mark opened rest rfl
  rw [hchd, lineMoved_runMoved]
  exact ⟨rfl, rfl, rfl, rfl⟩

end

/-- Settles O32: a suspended hand-over restarts the detector; any other moves the run state by the judgement of the line. -/
theorem detectorHandOver : Obligations.DetectorHandOver := by
  intro s l rest dd ds detects buffered mark hdd hds
  refine ⟨fun cause => ⟨_, exec_lineCompletion buffered, ?_⟩, fun clean strong apart follows judged =>
    ⟨_, exec_lineCompletion buffered, ?_⟩⟩
  · have suspended : (s.suspendCondition || s.suspendGeometry) = true := by
      rw [Bool.or_eq_true_iff, suspendCondition_iff, suspendGeometry_iff hdd hds, or_assoc]
      exact cause
    obtain ⟨hchd, hmlc⟩ := completeLine_suspended mark suspended rest
    rw [hchd, hmlc, suspendHandOver]
    by_cases held : s.chd.mode = .held
    · rw [dropReference_held (d := s.chd.toQuiet) held]
      exact ⟨rfl, rfl, rfl, rfl, rfl, rfl, rfl, suspendCondition_iff s, suspendGeometry_iff hdd hds, fun _ => rfl,
        fun mode => absurd held mode⟩
    · rw [dropReference_dropped (d := s.chd.toQuiet) held]
      exact ⟨rfl, rfl, rfl, rfl, rfl, rfl, rfl, suspendCondition_iff s, suspendGeometry_iff hdd hds,
        fun mode => absurd mode held, fun _ => rfl⟩
  · have opened := handOverOpen_of hdd hds apart clean strong
    have admitted := lineAdmitted_follows follows
    obtain ⟨-, same⟩ := lineAdmitted_judges (l := l) (s := s) (by rw [admitted]; rfl)
    rw [← detectsLine_iff, ← same] at judged
    have detecting (h : detects) := lineMoved_detects (judged.1 h)
    have silent (h : ¬detects) := lineMoved_not (mt judged.2 h)
    obtain ⟨history, lastAt, condition, geometry⟩ := completeLine_history mark opened rest
    rw [admitted] at detecting silent history condition geometry
    have moved {d : Chd} := completeLine_moved mark opened rest (d := d)
    have tripped {start : Int} {d : Chd} := completeLine_tripped mark opened rest (start := start) (d := d)
    refine ⟨?_, ?_, lastAt, condition, geometry, fun quiet h => ?_, fun quiet h more => ?_, fun quiet h one => ?_,
      fun counting h => ?_, fun counting h more => ?_, fun start counting h reached run => ?_, fun was h => ?_,
      fun was h more => ?_, fun was h reached => ?_⟩
    · rw [history, List.length_take]
      rfl
    · rw [history]
      rfl
    · obtain ⟨det, -, -, -, -, mlc⟩ := moved ((silent h).trans (moveNonDetecting_quiet quiet))
      exact ⟨det.trans quiet, mlc⟩
    · obtain ⟨det, n, -, runStart, -, mlc⟩ := moved ((detecting h).trans (moveDetecting_starts quiet more))
      exact ⟨det, n, runStart, mlc⟩
    · obtain ⟨det, lastTrip, zero, -, mlc⟩ := tripped ((detecting h).trans (moveDetecting_trips_at_once quiet one))
      exact ⟨det, lastTrip, zero, mlc⟩
    · obtain ⟨det, n, -, runStart, -⟩ := moved ((silent h).trans (moveNonDetecting_counting counting))
      exact ⟨det, n, runStart⟩
    · obtain ⟨det, n, -, runStart, -⟩ := moved ((detecting h).trans (moveDetecting_counts counting more))
      exact ⟨det.trans counting, n, runStart⟩
    · obtain ⟨det, lastTrip, zero, trips, mlc⟩ := tripped ((detecting h).trans (moveDetecting_trips counting reached run))
      exact ⟨det, lastTrip, zero, trips, mlc⟩
    · obtain ⟨det, -, zero, -, -, mlc⟩ := moved ((detecting h).trans (moveDetecting_tripped was))
      exact ⟨det.trans was, zero, mlc⟩
    · obtain ⟨det, -, quiet, -⟩ := moved ((silent h).trans (moveNonDetecting_counts was more))
      exact ⟨det.trans was, quiet⟩
    · obtain ⟨det, n, quiet, runStart, -⟩ := moved ((silent h).trans (moveNonDetecting_ends was reached))
      exact ⟨det, quiet, n, runStart⟩

end Sys2Proof.Machine
end

section
/-! The reference at a hand-over (O33): a line that follows on, and one that restarts the history. -/

namespace Sys2Proof.Machine

/-! ### A restarted history (R118, R119) -/

/-- CHD when the history has been restarted (R118). -/
def Chd.restarted (d : Chd) : Chd := { d.unsuspended.toQuiet.dropReference with history := [] }

theorem restarted_held {d : Chd} (held : d.mode = .held) : d.restarted = { d.unsuspended.toQuiet with history := [] } := by
  rw [Chd.restarted, dropReference_held (d := d.unsuspended.toQuiet) held]

theorem restarted_dropped {d : Chd} (mode : d.mode ≠ .held) :
    d.restarted = { d.unsuspended.toQuiet with history := [], held := none, stepCount := 0 } := by
  rw [Chd.restarted, dropReference_dropped (d := d.unsuspended.toQuiet) mode]

theorem restarted_quiet (d : Chd) : d.restarted.det = .quiet ∧ d.restarted.n = 0 ∧ d.restarted.quiet = 0 ∧
    d.restarted.runStart = none ∧ d.restarted.trips = d.trips ∧ d.restarted.history = [] := by
  unfold Chd.restarted Chd.dropReference
  split <;> exact ⟨rfl, rfl, rfl, rfl, rfl, rfl⟩

/-- In ROLLING and STEPPED a restarted history leaves no reference (R118). -/
theorem reference_restarted {s : State} (mode : s.chd.mode ≠ .held) :
    ({ s with chd := s.chd.restarted } : State).reference = none := by
  rw [restarted_dropped mode]
  by_cases rolling : s.chd.mode = .rolling
  · exact reference_rolling (s := { s with chd := _ }) rolling
  · exact reference_held (s := { s with chd := _ }) rolling

/-- In HELD the held reference serves on (R118, R121). -/
theorem reference_restarted_held {s : State} (held : s.chd.mode = .held) :
    ({ s with chd := s.chd.restarted } : State).reference = s.reference := by
  have mode : s.chd.mode ≠ .rolling := by simp [held]
  rw [restarted_held held, reference_held mode]
  exact reference_held (s := { s with chd := _ }) mode

/-- Settles O33: the reference by the mode, the cell test, and the hand-over by whether the line follows on. -/
theorem detectorReferences : Obligations.DetectorReferences := by
  refine ⟨fun s => ⟨fun rolling _ => reference_rolling rolling, fun rolling short => reference_rolling_short rolling short,
    fun mode => reference_held mode⟩, fun s c points => ⟨evaluateLine_length s c points, fun k b hb => ?_⟩, ?_⟩
  · rw [evaluateLine_getElem? hb, standsOut_iff]
    simp only [differenceCount_eq, cellPoints]
  · intro s l rest dd ds buffered mark hdd hds apart clean strong hnc
    have opened := handOverOpen_of hdd hds apart clean strong
    obtain ⟨sigs, standing⟩ := lineRecord_open mark opened
    obtain ⟨history, lastAt, -, -⟩ := completeLine_history mark opened rest
    obtain ⟨kept, refreshes, counts⟩ := completeLine_reference mark opened rest
    refine ⟨_, s.lineRecord l, exec_lineCompletion buffered, by rw [completeLine_spr], by rw [history, sigs]; rfl, lastAt,
      fun follows => ?_, fun e last broken => ?_⟩
    · have admitted := lineAdmitted_follows follows
      obtain ⟨marks, -⟩ := lineAdmitted_judges (l := l) (s := s) (by rw [admitted]; rfl)
      rw [standing, sigs, marks, history]
      rw [admitted] at kept refreshes counts ⊢
      exact ⟨rfl, rfl, kept, refreshes, counts⟩
    · have admitted : lineAdmitted l s = { s with chd := s.chd.restarted } := lineAdmitted_restarts last broken
      obtain ⟨quiet, n, zero, runStart, trips, empty⟩ := restarted_quiet s.chd
      have silent (h : ¬(lineAdmitted l s).detectsLine l = true) := completeLine_moved mark opened rest
        ((lineMoved_not h).trans ((moveNonDetecting_quiet (by rw [admitted]; exact quiet)).trans admitted))
      rw [quiet, n, zero, runStart, trips] at silent
      refine ⟨by rw [history, admitted]; exact congrArg (List.take 31) empty, fun mode => ?_, fun rolling => ?_,
        fun stepped more => ?_, fun stepped one => ?_, fun detects held judged => ?_⟩
      · have absent : (lineAdmitted l s).reference = none := by rw [admitted, reference_restarted mode]
        refine ⟨fun c hc => ?_, ?_⟩
        · have mem := List.mem_map_of_mem (f := fun c : Cell => c.standing) hc
          rw [standing, evaluateLine_of_no_reference absent] at mem
          exact List.eq_of_mem_replicate mem
        · have undetected := detectsLine_of_no_reference absent (by rw [admitted]; exact hnc) l
          exact silent (by rw [undetected]; exact Bool.false_ne_true)
      · rw [admitted, restarted_dropped (by simp [rolling])] at kept
        exact kept (by simp [rolling])
      · rw [admitted, restarted_dropped (by simp [stepped])] at counts
        exact counts stepped more
      · rw [admitted, restarted_dropped (by simp [stepped])] at refreshes
        rw [sigs]
        exact refreshes stepped one
      · obtain ⟨marks, same⟩ := lineAdmitted_judges (l := l) (s := s) (by rw [admitted, reference_restarted_held held])
        rw [← detectsLine_iff, ← same] at judged
        have detecting (h : detects) := lineMoved_detects (judged.1 h)
        rw [admitted] at detecting
        rw [admitted, restarted_held held] at kept
        obtain ⟨reference, steps⟩ := kept (by simp [held])
        refine ⟨reference, steps, by rw [standing, marks], fun h => ?_, fun h more => ?_, fun h one => ?_⟩
        · obtain ⟨det, n, zero, runStart, -, mlc⟩ := silent (mt judged.2 h)
          exact ⟨det, n, zero, runStart, mlc⟩
        · obtain ⟨det, n, -, runStart, -, mlc⟩ := completeLine_moved mark opened rest
            ((detecting h).trans (moveDetecting_starts quiet more))
          exact ⟨det, n, runStart, mlc⟩
        · obtain ⟨det, lastTrip, -, -, mlc⟩ := completeLine_tripped mark opened rest
            ((detecting h).trans (moveDetecting_trips_at_once quiet one))
          exact ⟨det, lastTrip, mlc⟩

end Sys2Proof.Machine
end

section
/-! The owner's act at a write of an item (R181, R182, R186): what it makes of each block, and its reports. -/

namespace Sys2Proof.Machine

/-! ### What an item's owner leaves (R181, R182, R186) -/

theorem ownerAct_mpr (id : Nat) (s : State) : (ownerAct id s).mpr = s.mpr := by simp

theorem ownerAct_load (id : Nat) (s : State) : (ownerAct id s).load = s.load := by simp

/-- Of the state the acts reach the blocks of their owners alone. -/
theorem ownerAct_eq (id : Nat) (s : State) : ownerAct id s = { s with
    mpr := (ownerAct id s).mpr, chL := (ownerAct id s).chL, chR := (ownerAct id s).chR, plt := (ownerAct id s).plt
    mlc := (ownerAct id s).mlc, chd := (ownerAct id s).chd, tqs := (ownerAct id s).tqs, clp := (ownerAct id s).clp } := by
  apply State.eq_of_fields <;> simp

section
variable {id : Nat} {s : State}

theorem ownerAct_ch (h16 : id ≠ 16) (h17 : id ≠ 17) (h21 : id ≠ 21) (h22 : id ≠ 22) (x : Side) :
    (ownerAct id s).ch x = s.ch x := by
  suffices same : (ownerAct id s).chL = s.chL ∧ (ownerAct id s).chR = s.chR by
    obtain ⟨left, right⟩ := same
    cases x
    · exact left
    · exact right
  unfold ownerAct
  split
  case h_4 => exact absurd rfl h16
  case h_5 => exact absurd rfl h17
  case h_6 => exact absurd rfl h21
  case h_7 => exact absurd rfl h22
  all_goals simp [pairComplete, writeRefMode, writeLt, apply_ite State.chL, apply_ite State.chR]

theorem ownerAct_chd (h49 : id ≠ 49) : (ownerAct id s).chd = s.chd := by
  unfold ownerAct
  split
  case h_9 => exact absurd rfl h49
  all_goals simp [pairComplete, clampDepths, clampSlopes, clampTrims, writeLt, apply_ite State.chd]

theorem ownerAct_plt (h2 : id ≠ 2) (h35 : id ≠ 35) : (ownerAct id s).plt = s.plt := by
  unfold ownerAct
  split
  case h_1 => exact absurd rfl h2
  case h_8 => exact absurd rfl h35
  all_goals simp [pairComplete, clampDepths, clampSlopes, clampTrims, writeRefMode, writeLt, apply_ite State.plt]

theorem ownerAct_mlc (h2 : id ≠ 2) (h35 : id ≠ 35) (h16 : id ≠ 16) (h17 : id ≠ 17) : (ownerAct id s).mlc = s.mlc := by
  unfold ownerAct
  split
  case h_1 => exact absurd rfl h2
  case h_4 => exact absurd rfl h16
  case h_5 => exact absurd rfl h17
  case h_8 => exact absurd rfl h35
  all_goals simp [pairComplete, clampSlopes, clampTrims, writeRefMode, writeLt, apply_ite State.mlc]

theorem ownerAct_tqs (h2 : id ≠ 2) (h4 : id ≠ 4) (h5 : id ≠ 5) (h35 : id ≠ 35) (h57 : id ≠ 57) (h58 : id ≠ 58) :
    (ownerAct id s).tqs = s.tqs := by
  unfold ownerAct
  split
  case h_1 => exact absurd rfl h2
  case h_2 => exact absurd rfl h4
  case h_3 => exact absurd rfl h5
  case h_8 => exact absurd rfl h35
  case h_10 => exact absurd rfl h57
  case h_11 => exact absurd rfl h58
  all_goals simp [clampDepths, clampSlopes, clampTrims, writeRefMode, apply_ite State.tqs]

end

/-! ### The reference mode (R122) -/

theorem writeRefMode_chd (s : State) : (writeRefMode s).chd =
    if (writeRefMode s).tun.refMode = s.chd.mode then s.chd
    else { s.chd with mode := (writeRefMode s).tun.refMode, held := none, stepCount := 0 } := by
  have mpr : (writeRefMode s).mpr = s.mpr := ownerAct_mpr 49 s
  rw [State.tun, mpr]
  unfold writeRefMode
  split <;> rfl

/-! ### The acts that form the permit (R169, R175, R181) -/

theorem pairComplete_tqs (s : State) : (pairComplete s).tqs =
    if (pairComplete s).geo.lb ≠ none ∧ (pairComplete s).geo.cb ≠ none then
      { s.tqs with permit := (pairComplete s).permitOf, reasons := (pairComplete s).reasonsOf } else s.tqs := by
  have geo : (pairComplete s).geo = s.geo := congrArg (·.params.geo) (ownerAct_mpr 4 s)
  rw [geo]
  simp only [pairComplete, Option.isSome_iff_ne_none]
  split
  · exact formPermit_tqs_of rfl
  · rfl

/-! ### The topping test at a write of Lt (R153, R169) -/

theorem nearDischarge_congr {s t : State} (hm : t.mpr = s.mpr) (hp : t.load.parcels = s.load.parcels) :
    t.nearDischarge = s.nearDischarge := by
  simp only [State.nearDischarge, State.geo, State.tun, hm, hp]

theorem writeLt_nearDischarge (s : State) : (writeLt s).nearDischarge = s.nearDischarge :=
  nearDischarge_congr (ownerAct_mpr 57 s) (congrArg (·.parcels) (ownerAct_load 57 s))

theorem toppingMet_iff {s : State} {h : Truck} {rest : List Truck} (trucks : s.tqs.trucks = h :: rest) :
    s.toppingMet = true ↔ h.target * 1000 ≤ h.fill + s.nearDischarge := by
  rw [State.toppingMet, State.head, trucks]
  exact decide_eq_true_iff

theorem writeLt_tops {s : State} (running : s.tqs.conveyor = .running) (met : s.toppingMet = true) : (writeLt s).tqs =
    { s.tqs with
      conveyor := .topping, cmd := s.toppingCommand
      permit := (writeLt s).permitOf, reasons := (writeLt s).reasonsOf } := by
  have tops : toppingTest s = enterConveyor .topping s.toppingCommand s := if_pos ⟨running, met⟩
  have written : writeLt s = formPermit (enterConveyor .topping s.toppingCommand s) := by
    rw [writeLt, tops]
    exact if_neg (by simp [running])
  obtain ⟨permit, reasons⟩ := formPermit_formed (enterConveyor .topping s.toppingCommand s)
  rw [written, ← permit, ← reasons, formPermit_tqs, enterConveyor_tqs]

theorem writeLt_stays {s : State} (h : ¬(s.tqs.conveyor = .running ∧ s.toppingMet = true)) : (writeLt s).tqs = s.tqs := by
  have stays : toppingTest s = s := if_neg h
  rw [writeLt, stays, if_pos rfl]

theorem writeLt_below {s : State} {h : Truck} {rest : List Truck} (trucks : s.tqs.trucks = h :: rest)
    (below : s.tqs.conveyor ≠ .running ∨ h.fill + (writeLt s).nearDischarge < h.target * 1000) :
    (writeLt s).tqs = s.tqs := by
  rw [writeLt_nearDischarge] at below
  refine writeLt_stays fun ⟨running, met⟩ => ?_
  exact below.elim (fun stands => stands running) ((toppingMet_iff trucks).1 met).not_gt

theorem writeLt_no_truck {s : State} (trucks : s.tqs.trucks = []) : (writeLt s).tqs = s.tqs := by
  refine writeLt_stays fun ⟨_, met⟩ => ?_
  rw [State.toppingMet, State.head, trucks] at met
  exact Bool.false_ne_true met

/-! ### The reports of the act (R166, R175, R186) -/

theorem reportsMade_reformDisposition {m : BitVec 9} (hs : ReportKind.state.bit &&& m = ReportKind.state.bit)
    (hp : ReportKind.permit.bit &&& m = ReportKind.permit.bit) (s : State) : reportsMade m s (reformDisposition s) := by
  have kept : reportsMade m s (keepDisposition s) := reportsMade_of_kept rfl rfl rfl rfl rfl rfl rfl rfl
  unfold reformDisposition
  dsimp only
  split
  · exact kept
  · exact (kept.trans (reportsMade_setCauses _ hs _)).trans (reportsMade_formPermit hp _)

theorem reportsMade_writeLt {m : BitVec 9} (hs : ReportKind.state.bit &&& m = ReportKind.state.bit)
    (hp : ReportKind.permit.bit &&& m = ReportKind.permit.bit) (s : State) : reportsMade m s (writeLt s) := by
  have tested : reportsMade m s (toppingTest s) := by
    unfold toppingTest
    split
    · exact reportsMade_enterConveyor _ _ hs s
    · exact reportsMade_of_kept rfl rfl rfl rfl rfl rfl rfl rfl
  unfold writeLt
  dsimp only
  split
  · exact tested
  · exact tested.trans (reportsMade_formPermit hp _)

/-- A channel whose depths, slope or trim is clamped calls for no report. -/
theorem reportsMade_clamped (m : BitVec 9) {s t : State} (hclp : t.clp = s.clp)
    (hc : ∀ x, (t.ch x).state = (s.ch x).state ∧ (t.ch x).holdSource = (s.ch x).holdSource ∧
      (t.ch x).holdLink = (s.ch x).holdLink ∧ (t.ch x).grade = (s.ch x).grade)
    (hm : t.mlc.causes = s.mlc.causes) (hs : t.cst = s.cst) (ht : t.tqs = s.tqs) : reportsMade m s t :=
  reportsMade_of_same (reportsAdded_of_eq m hclp) hc hm (by rw [ht]) (by rw [hs]) (by rw [ht]) (by rw [ht])

/-- The owner's act queues STATE and PERMIT at most, but at the two timers (R86, R166, R175). -/
theorem reportsMade_ownerAct {id : Nat} (h59 : id ≠ 59) (h60 : id ≠ 60) (s : State) :
    reportsMade 0b000010001 s (ownerAct id s) := by
  have same : reportsMade 0b000010001 s s := reportsMade_of_kept rfl rfl rfl rfl rfl rfl rfl rfl
  have pair : reportsMade 0b000010001 s (pairComplete s) := by
    unfold pairComplete
    split
    · exact reportsMade_formPermit (by decide) s
    · exact same
  unfold ownerAct
  split
  case h_1 | h_8 => exact reportsMade_reformDisposition (by decide) (by decide) s
  case h_2 | h_3 => exact pair
  case h_4 | h_5 | h_6 | h_7 =>
    exact reportsMade_clamped _ rfl (fun x => by cases x <;> exact ⟨rfl, rfl, rfl, rfl⟩) rfl rfl rfl
  case h_9 =>
    unfold writeRefMode
    split
    · exact same
    · exact reportsMade_chd _ s _
  case h_10 => exact reportsMade_writeLt (by decide) (by decide) s
  case h_11 => exact reportsMade_formPermit (by decide) s
  case h_12 => exact absurd rfl h59
  case h_13 => exact absurd rfl h60
  case h_14 => exact same

end Sys2Proof.Machine
end

section
/-! SET_PARAM, accepted (R180): the parameter table as a store, and the write of an item followed by its owner's act. -/

namespace Sys2Proof.Machine

/-! ### The parameter table as a store (section 10.1) -/

theorem refModeOf_code {v : Int} (h0 : 0 ≤ v) (h2 : v ≤ 2) : ((refModeOf v).code : Int) = v := by
  obtain rfl | rfl | rfl : v = 0 ∨ v = 1 ∨ v = 2 := by omega
  all_goals rfl

theorem defaultOf_code {v : Int} (h0 : 0 ≤ v) (h1 : v ≤ 1) : ((defaultOf v).code : Int) = v := by
  obtain rfl | rfl : v = 0 ∨ v = 1 := by omega
  all_goals rfl

/-- A ski cell value is read back from its first and its last cell (section 11.8). -/
theorem cellRangeCode_of {v : Int} (h : cellRangeOk v = true) : cellRangeCode (cellRangeOf v) = v := by
  simp only [cellRangeOk, Bool.and_eq_true, decide_eq_true_eq] at h
  simp only [cellRangeCode, cellRangeOf]
  omega

/-- A written item reads back its value. -/
theorem paramTable_get_put : ∀ row ∈ paramTable, ∀ (v : Int) (p : Params), row.ok v = true →
    row.get (row.put v p) = some v := by
  simp only [paramTable, geometryRows, envelopeRows, travelPlanRows, scannerRows, loadingLinkRows, channelRows,
    calibrationRows, List.cons_append, List.nil_append, chanRows, sensorRows, List.forall_mem_cons]
  simp [geoRow, envRow, tunRow, tunRowOk, offsetRow, within]
  exact ⟨fun _ _ => defaultOf_code, fun _ _ => cellRangeCode_of, fun _ _ => refModeOf_code⟩

/-- A write of `row` reaches no other item of the table. -/
def ParamRow.Apart (row : ParamRow) : Prop := ∀ v p, paramTable.map (fun r => r.get (row.put v p)) =
  paramTable.map (fun r => if r.id = row.id then row.get (row.put v p) else r.get p)

/-- Each row of the table reads and writes a field of its own. -/
theorem paramTable_apart : ∀ row ∈ paramTable, row.Apart := by
  simp only [paramTable, geometryRows, envelopeRows, travelPlanRows, scannerRows, loadingLinkRows, channelRows,
    calibrationRows, List.cons_append, List.nil_append, chanRows, sensorRows, List.forall_mem_cons, List.not_mem_nil,
    false_imp_iff, implies_true, and_true]
  and_intros
  all_goals exact fun _ _ => rfl

theorem get_put_other {row other : ParamRow} (hrow : row ∈ paramTable) (hother : other ∈ paramTable) (apart : other.id ≠ row.id)
    (v : Int) (p : Params) : other.get (row.put v p) = other.get p :=
  (List.map_inj_left.1 (paramTable_apart row hrow v p) other hother).trans (if_neg apart)

/-! ### SET_PARAM, accepted (R180) -/

/-- The value is written, before its owner acts (R180). -/
def paramWritten (row : ParamRow) (v : Int) (s : State) : State :=
  { s with mpr := { s.mpr with params := row.put v s.mpr.params } }

theorem writeGate_open {s : State} {cls : ItemClass}
    (envelope : cls = .envelope → ∀ x, (s.ch x).state ≠ .auto ∧ (s.ch x).state ≠ .jog)
    (calibration : cls = .calibration → s.chL.state = .off ∧ s.chR.state = .off ∨ s.mpr.calOpen = true) :
    s.writeGate cls = true := by
  cases cls with
  | geometry => rfl
  | envelope =>
    obtain ⟨autoL, jogL⟩ := envelope rfl .L
    obtain ⟨autoR, jogR⟩ := envelope rfl .R
    simp only [ch_L, ch_R] at autoL jogL autoR jogR
    simp [State.writeGate, State.envelopeGate, autoL, jogL, autoR, jogR]
  | tuning => rfl
  | calibration => simpa [State.writeGate, State.calibrationGate] using calibration rfl

theorem serveSetParam_accepted {s : State} {item : Nat} {v : Int} {row : ParamRow} (found : findParam item = some row)
    (unset : row.cls = .geometry → row.get s.mpr.params = none) (unlocked : row.cls = .envelope → s.mpr.lock = false)
    (ok : row.ok v = true) (gate : s.writeGate row.cls = true) :
    serveSetParam item v s = accept (f8 item ++ bytesBE 4 v) (ownerAct item (paramWritten row v s)) := by
  have id : row.id = item := by simpa using List.find?_some found
  have not_set : ¬(row.cls = .geometry ∧ (row.get s.mpr.params).isSome = true) := fun ⟨cls, set⟩ => by simp [unset cls] at set
  have not_locked : ¬(row.cls = .envelope ∧ s.mpr.lock = true) := fun ⟨cls, locked⟩ => by simp [unlocked cls] at locked
  rw [serveSetParam, found, ← id]
  dsimp only
  rw [if_neg not_set, if_neg not_locked, ok, gate]
  rfl

/-- Settles O44: the table stores the value, and the owner's act is followed block by block. -/
theorem setParamAccepted : Obligations.SetParamAccepted := by
  intro s tag item v row free found unset unlocked ok envelope calibration
  have mem : row ∈ paramTable := List.mem_of_find?_eq_some found
  have id : row.id = item := by simpa using List.find?_some found
  have served := serveSetParam_accepted found unset unlocked ok (writeGate_open envelope calibration)
  have mpr := ownerAct_mpr item (paramWritten row v s)
  have written : reportsMade 0b000010001 s (paramWritten row v s) := reportsMade_of_kept rfl rfl rfl rfl rfl rfl rfl rfl
  have reports (h59 : item ≠ 59) (h60 : item ≠ 60) := written.trans (reportsMade_ownerAct h59 h60 (paramWritten row v s))
  have tqs_reports (changed : (ownerAct item (paramWritten row v s)).tqs ≠ s.tqs) :=
    reports (by rintro rfl; exact changed rfl) (by rintro rfl; exact changed rfl)
  refine ⟨ownerAct item (paramWritten row v s), exec_answered (q := ⟨tag, .setParam item v⟩) rfl free served,
    ?_, fun other hother apart => ?_, ?_, ?_, ?_, ?_, ?_, fun x h16 h17 h21 h22 => ownerAct_ch h16 h17 h21 h22 x,
    ?_, ownerAct_chd, ?_, ownerAct_plt, ?_, ownerAct_mlc, ?_, ?_, ?_, ?_, ?_, ownerAct_tqs, fun changed enabled => ?_, fun changed enabled => ?_, ?_, reports, ownerAct_eq item _⟩
  · rw [mpr]
    exact paramTable_get_put row mem v _ ok
  · rw [mpr]
    exact get_put_other mem hother (id ▸ apart) v _
  · rw [mpr]
    rfl
  · rw [mpr]
    rfl
  · rintro x (rfl | rfl) <;> cases x <;> rfl
  · rintro x rfl
    cases found
    cases x <;> rfl
  · rintro x rfl
    cases found
    cases x <;> rfl
  · rintro rfl
    exact writeRefMode_chd (paramWritten row v s)
  · rw [mpr]
    rintro (rfl | rfl) <;> exact reformDisposition_reformed (paramWritten row v s)
  · rintro (rfl | rfl) <;> rfl
  · rintro (rfl | rfl) <;> exact pairComplete_tqs (paramWritten row v s)
  · rintro rfl
    exact formPermit_tqs_of (s := s) rfl
  · rintro h rest rfl running trucks reached
    cases found
    refine writeLt_tops (s := paramWritten _ v s) running ((toppingMet_iff (s := paramWritten _ v s) trucks).2 ?_)
    rwa [← writeLt_nearDischarge]
  · rintro h rest rfl trucks below
    exact writeLt_below (s := paramWritten row v s) trucks below
  · rintro rfl trucks
    exact writeLt_no_truck (s := paramWritten row v s) trucks
  · exact (tqs_reports fun same => changed (by rw [same])).permit_pending changed enabled
  · obtain ⟨-, state, -⟩ := tqs_reports fun same => changed (by rw [same])
    exact state (.inr (.inr changed)) enabled
  · rintro (rfl | rfl) <;> exact reportsMade_of_kept rfl rfl rfl rfl rfl rfl rfl rfl

end Sys2Proof.Machine
end

section
/-! Computation status (chapter 7): the clearing of flags, the capture of a fault, and the requests ARM_FAULT, GET_FAULT and
GET_LOADING (chapter 8). -/

namespace Sys2Proof.Machine

/-! ### CLEAR_FLAGS (R135) -/

/-- The flag set and ANY as bytes (R134, R202). -/
theorem flagsAndAny_bytes (s : State) : fFlags s ++ fBool s.anyFlag =
    bytesBE 2 s.cst.flags.toNat ++ [if s.cst.flags = 0 then 0x00 else 0x01] := by
  by_cases clear : s.cst.flags = 0 <;> simp [fFlags, f16, fBool, State.anyFlag, clear]

theorem serveClearFlags_accepted {s t : State} {flags : BitVec 16} (named : flags.toNat < 8192)
    (cleared : clearFlags (flags.setWidth 13) s = t) : serveClearFlags flags s =
      accept (bytesBE 2 t.cst.flags.toNat ++ [if t.cst.flags = 0 then 0x00 else 0x01]) t := by
  subst cleared
  exact (if_neg (not_le.2 named)).trans (congrArg (accept · _) (flagsAndAny_bytes _))

theorem serveClearFlags_refused {s : State} {flags : BitVec 16} (unnamed : ¬flags.toNat < 8192) :
    serveClearFlags flags s = refuse .range s :=
  if_pos (not_lt.1 unnamed)

/-- Settles O35: a set within the 13 flags is cleared and read back, any other is refused. -/
theorem Settled.clearFlags : Obligations.ClearFlags := by
  rintro s tag flags _ free rfl
  split
  next named => exact exec_answered (q := ⟨tag, .clearFlags flags⟩) rfl free (serveClearFlags_accepted named rfl)
  next unnamed => exact exec_answered (q := ⟨tag, .clearFlags flags⟩) rfl free (serveClearFlags_refused unnamed)

/-! ### The fault capture (R132, R138, R183) -/

/-- A flag that is set already changes nothing (R132). -/
theorem setFlag_of_set {f : Flag} {s : State} (set : s.flagSet f = true) : setFlag f s = s := if_pos set

/-- A change of a clear flag with the arm up is captured once: locus, count, FAULT report, arm down (R138). -/
theorem setFlag_armed {f : Flag} {s : State} (clear : s.flagSet f = false) (armed : s.cst.armed = true) :
    setFlag f s = { s with
      cst := ⟨s.cst.flags ||| f.bit, false, some ⟨f, f.source, s.drum, s.runningTime⟩, wrapInc s.cst.captures⟩
      clp := { s.clp with waiting := s.clp.waiting ||| (ReportKind.fault.bit &&& s.clp.enabled) } } := by
  rw [setFlag, if_neg (Bool.eq_false_iff.1 clear)]
  dsimp only
  rw [if_pos armed, captureFault, queueReport_eq]
  rfl

/-- SET_CAL_OPEN under the envelope lock is refused with LOCKED (R183, R184). -/
theorem serveSetCalOpen_locked {s : State} {arg : Nat} (locked : s.mpr.lock = true) (yesNo : arg ≤ 1) :
    serveSetCalOpen arg s = refuse .locked (setFlag .lockedWrite s) := by
  obtain rfl | rfl : arg = 0 ∨ arg = 1 := by omega
  all_goals exact if_pos locked

/-- Settles O37: the refusal is LOCKED, and what it leaves is the effect of setting LOCKED_WRITE, in each of its three cases. -/
theorem faultCapture : Obligations.FaultCapture := by
  intro s tag arg free locked yesNo
  have answered {t : State} (flagged : setFlag .lockedWrite s = t) :
      exec (.setCalOpen tag arg) s = .next (withReply ⟨0xCB, tag, [0x14]⟩ t) :=
    exec_answered (q := ⟨tag, .setCalOpen arg⟩) rfl free
      ((serveSetCalOpen_locked locked yesNo).trans (congrArg (refuse .locked) flagged))
  exact ⟨fun set => answered (setFlag_of_set set), fun _ down => answered (setFlag_disarmed .lockedWrite s down),
    fun clear up => answered (setFlag_armed clear up)⟩

/-! ### ARM_FAULT and GET_FAULT (R137, R140) -/

theorem serveArmFault_accepted (arm : Bool) (s : State) : serveArmFault (if arm then 1 else 0) s =
    accept (fBool arm ++ f16 s.cst.captures ++ fFlags s) { s with cst := { s.cst with armed := arm } } := by
  cases arm <;> rfl

/-- The flag set and ANY come first, the running time last (R140). -/
theorem getFaultValues_eq (s : State) : getFaultValues s =
    bytesBE 2 s.cst.flags.toNat ++ [if s.cst.flags = 0 then 0x00 else 0x01] ++ fBool s.cst.armed ++
      fOpt 10 fLocus s.cst.locus ++ bytesBE 2 s.cst.captures ++ bytesBE 4 (s.now % 4294967296 : Nat) := by
  rw [getFaultValues, flagsAndAny_bytes]
  rfl

/-! ### GET_LOADING (R156) -/

theorem serveGetLoading_accepted {s : State} {first count : Nat} (index : first ≤ 31) (one : 1 ≤ count) (eight : count ≤ 8) :
    serveGetLoading first count s = accept (loadingValues first count s) s := by
  refine if_neg ?_
  omega

/-- The parcels of a reply, their count first (R156, R202). -/
theorem fRecords_parcels (first count : Nat) (ps : List Parcel) : fRecords fParcel (window first count ps) =
    bytesBE 1 (min count (ps.length - first) : Nat) ++
      ((ps.drop first).take count).flatMap (fun q => bytesBE 8 q.vol ++ bytesBE 2 q.pos) := by
  rw [← List.length_drop, ← List.length_take]
  rfl

/-- Hc is formed from C_b and Lb (R148). -/
theorem hc_of_set {s : State} {lb cb : Int} (hlb : s.geo.lb = some lb) (hcb : s.geo.cb = some cb) :
    s.hc = some (Int.tdiv (cb * lb) 1000) := by
  simp only [State.hc, hlb, hcb, truncDiv]

/-- Hc is not formed while C_b or Lb is unset (R148). -/
theorem hc_of_unset {s : State} (unset : s.geo.lb = none ∨ s.geo.cb = none) : s.hc = none := by
  rcases unset with hlb | hcb
  · simp only [State.hc, hlb]
  · cases hlb : s.geo.lb <;> simp only [State.hc, hlb, hcb]

/-- The volume near the discharge end, with Lb set (R153). -/
theorem nearDischarge_of_set {s : State} {lb : Int} (hlb : s.geo.lb = some lb) : s.nearDischarge =
    ((s.load.parcels.filter (fun q => decide (lb - s.tun.lt ≤ (q.pos : Int)))).map (fun q => q.vol)).sum := by
  simp only [State.nearDischarge, hlb, volumeOf]

/-- Settles O36: each request is accepted with its layout, and Hc and the sums of volumes are their formulas. -/
theorem statusRequests : Obligations.StatusRequests := by
  intro s tag arm first count free
  refine ⟨?_, ?_, fun index one eight => ?_, fun lb cb hlb hcb => ⟨hc_of_set hlb hcb, nearDischarge_of_set hlb⟩,
    hc_of_unset, rfl, rfl⟩
  · exact exec_answered (q := ⟨tag, .armFault _⟩) rfl free (serveArmFault_accepted arm s)
  · refine exec_answered (q := ⟨tag, .getFault⟩) rfl free (congrArg (accept · s) ((getFaultValues_eq s).trans ?_))
    cases s.cst.locus <;> rfl
  · refine exec_answered (q := ⟨tag, .getLoading first count⟩) rfl free
      ((serveGetLoading_accepted index one eight).trans (congrArg (accept · s) ?_))
    rw [loadingValues, fRecords_parcels]
    simp only [fVolumes, fLastParcel, f8, f64, List.append_assoc]
    cases s.hc <;> rfl

end Sys2Proof.Machine
end

section
/-! The volume balance (R144): the volume that the parcel list holds, where metering, a discharge pass, COUNTERS_RESET and a warm
restart put a volume, and that every step keeps the balance. -/

namespace Sys2Proof.Machine

/-! ### The volume of a parcel list (R146, R147, R149) -/

@[simp] theorem volumeOf_nil : volumeOf [] = 0 := rfl

@[simp] theorem volumeOf_cons (q : Parcel) (ps : List Parcel) : volumeOf (q :: ps) = q.vol + volumeOf ps := by
  simp [volumeOf]

@[simp] theorem volumeOf_append (ps qs : List Parcel) : volumeOf (ps ++ qs) = volumeOf ps + volumeOf qs := by
  simp [volumeOf]

/-- The newest parcel is the last of the list (R147). -/
theorem addToNewest_concat (p : Nat) (front : List Parcel) (q : Parcel) :
    addToNewest p (front ++ [q]) = front ++ [{ q with vol := q.vol + p }] := by
  induction front with
  | nil => rfl
  | cons f front ih => cases front <;> simp_all [addToNewest]

@[simp] theorem placeParcel_nil (p : Nat) : placeParcel p [] = ([⟨p, 0⟩], false) := rfl

/-- The newest parcel grows while it is below 50 mm, or, with the list full, as a merge; else a parcel is added at 0 (R147). -/
theorem placeParcel_concat (p : Nat) (front : List Parcel) (q : Parcel) : placeParcel p (front ++ [q]) =
    if q.pos < 50 then (front ++ [{ q with vol := q.vol + p }], false)
    else if 32 ≤ (front ++ [q]).length then (front ++ [{ q with vol := q.vol + p }], true)
    else (front ++ [q] ++ [⟨p, 0⟩], false) := by
  simp [placeParcel, addToNewest_concat]

@[simp] theorem volumeOf_placeParcel (p : Nat) (ps : List Parcel) : volumeOf (placeParcel p ps).1 = volumeOf ps + p := by
  rcases List.eq_nil_or_concat ps with rfl | ⟨front, q, rfl⟩
  · simp
  · rw [List.concat_eq_append, placeParcel_concat]
    (repeat' split) <;> simp [Nat.add_assoc]

@[simp] theorem volumeOf_advanceParcels (lb : Nat) (ps : List Parcel) : volumeOf (advanceParcels lb ps) = volumeOf ps := by
  simp [volumeOf, advanceParcels, Function.comp_def]

/-! ### Metering (R142 to R144) -/

@[simp] theorem newParcel_load (p : Nat) (s : State) :
    (newParcel p s).load = { s.load with parcels := (placeParcel p s.load.parcels).1 } := by
  simp [newParcel]

/-- The state in which an issued volume step is handled: it is no longer due (log entry 5). -/
def volumeTaken (s : State) : State := { s with trc := { s.trc with volumeDue := s.trc.volumeDue - 1 } }

theorem volumeStep_unfitted {s : State} (h : s.geo.w = none) : volumeStep s = meterNothing (volumeTaken s) := by
  simp only [volumeStep, volumeTaken]
  split
  next => rfl
  next w hw => exact absurd (h.symm.trans hw) nofun

theorem volumeStep_fitted {s : State} {w : Int} (h : s.geo.w = some w) : volumeStep s =
    if parcelVolume s.chL.dMeas s.chR.dMeas w s.tun.swell = 0 ∨
        Config.counterMax < s.load.vc + parcelVolume s.chL.dMeas s.chR.dMeas w s.tun.swell then
      meterNothing (volumeTaken s)
    else routeVolume (parcelVolume s.chL.dMeas s.chR.dMeas w s.tun.swell) (volumeTaken s) := by
  simp only [volumeStep, volumeTaken]
  split
  next hw => exact absurd (h.symm.trans hw) nofun
  next v hv =>
    cases h.symm.trans hv
    rfl

/-! ### The discharge pass (R150 to R152) -/

@[simp] theorem deliver_load (n : Nat) (s : State) : (deliver n s).load = { s.load with vd := s.load.vd + n } := by
  simp [deliver]

@[simp] theorem spillParcel_load (q : Parcel) (s : State) :
    (spillParcel q s).load = { s.load with vs := s.load.vs + q.vol } := by
  simp [spillParcel]

/-- Of LOAD a discharge pass moves Vd and Vs alone, and what leaves the list is in one of them (R150 to R152). -/
theorem dischargePass_load (lb : Nat) (ps : List Parcel) (s : State) :
    (dischargePass lb ps s).2.load =
      { s.load with vd := (dischargePass lb ps s).2.load.vd, vs := (dischargePass lb ps s).2.load.vs } ∧
    (dischargePass lb ps s).2.load.vd + (dischargePass lb ps s).2.load.vs + volumeOf (dischargePass lb ps s).1 =
      s.load.vd + s.load.vs + volumeOf ps := by
  induction ps generalizing s with
  | nil => exact ⟨rfl, rfl⟩
  | cons q rest ih =>
    have spilled := ih (spillParcel q s)
    have delivered := ih (deliver q.vol s)
    simp only [spillParcel_load, deliver_load] at spilled delivered
    have filled (n : Nat) (left : List Parcel) (split : volumeOf left + n = volumeOf (q :: rest)) :
        (headFull (deliver n s)).load = { s.load with
          vd := (headFull (deliver n s)).load.vd, vs := (headFull (deliver n s)).load.vs } ∧
        (headFull (deliver n s)).load.vd + (headFull (deliver n s)).load.vs + volumeOf left =
          s.load.vd + s.load.vs + volumeOf (q :: rest) := by
      simp only [headFull_frame, deliver_load, true_and]
      omega
    unfold dischargePass
    (repeat' split)
    · exact ⟨rfl, rfl⟩
    · exact ⟨spilled.1, by rw [spilled.2, volumeOf_cons]; omega⟩
    · exact ⟨delivered.1, by rw [delivered.2, volumeOf_cons]; omega⟩
    · exact filled q.vol rest (by rw [volumeOf_cons]; omega)
    · exact filled _ _ (by simp only [volumeOf_cons]; omega)
    · exact ⟨spilled.1, by rw [spilled.2, volumeOf_cons]; omega⟩

/-- What a belt step leaves before the list change is handed to TQS (R149 to R152). -/
def discharged (lb : Nat) (s : State) : State :=
  let r := dischargePass lb (advanceParcels lb s.load.parcels) s
  { r.2 with load := { r.2.load with parcels := r.1 } }

theorem runBeltStep_eq (lb : Nat) (s : State) : runBeltStep lb s = handListChange (discharged lb s) := rfl

/-- A belt step moves parcels, Vd and Vs, and their sum stays (R150 to R152). -/
theorem runBeltStep_load (lb : Nat) (s : State) :
    (runBeltStep lb s).load = { s.load with
      vd := (runBeltStep lb s).load.vd, vs := (runBeltStep lb s).load.vs, parcels := (runBeltStep lb s).load.parcels } ∧
    (runBeltStep lb s).load.vd + (runBeltStep lb s).load.vs + (runBeltStep lb s).beltContent =
      s.load.vd + s.load.vs + s.beltContent := by
  obtain ⟨fields, volumes⟩ := dischargePass_load lb (advanceParcels lb s.load.parcels) s
  rw [volumeOf_advanceParcels] at volumes
  have load : (runBeltStep lb s).load = (discharged lb s).load := by simp [runBeltStep_eq]
  rw [State.beltContent, load]
  exact ⟨by rw [discharged, fields], volumes⟩

/-- The state in which an issued belt step is handled: it is no longer due (log entry 5). -/
def beltTaken (s : State) : State := { s with trc := { s.trc with beltDue := s.trc.beltDue - 1 } }

theorem beltStep_empty {s : State} (h : s.load.parcels = []) : beltStep s = beltTaken s := if_pos h

theorem beltStep_loaded {s : State} {lb : Int} (hlb : s.geo.lb = some lb) (h : s.load.parcels ≠ []) :
    beltStep s = runBeltStep lb.toNat (beltTaken s) := by
  simp only [beltStep, beltTaken, if_neg h]
  split
  next hn => exact absurd (hlb.symm.trans hn) nofun
  next l hl =>
    cases hlb.symm.trans hl
    rfl

theorem beltStep_cases (s : State) :
    beltStep s = beltTaken s ∨ ∃ lb, beltStep s = runBeltStep lb (beltTaken s) := by
  unfold beltStep
  dsimp only
  (repeat' split)
  · exact .inl rfl
  · exact .inl rfl
  · exact .inr ⟨_, rfl⟩

/-! ### What keeps the balance -/

section
variable {s t : State}

/-- The balance reads LOAD alone. -/
theorem volumeBalanced_of_load (h : s.volumeBalanced) (e : t.load = s.load) : t.volumeBalanced := by
  unfold State.volumeBalanced State.beltContent at h ⊢
  rwa [e]

theorem meterNothing_volumeBalanced (h : s.volumeBalanced) : (meterNothing s).volumeBalanced := h

/-- What is counted in Vc is counted in Vw or joins the parcels (R143). -/
theorem routeVolume_volumeBalanced (p : Nat) (h : s.volumeBalanced) : (routeVolume p s).volumeBalanced := by
  unfold State.volumeBalanced State.beltContent at h ⊢
  unfold routeVolume
  split
  · simp only [newParcel_load, volumeOf_placeParcel]
    omega
  · dsimp only
    omega

theorem volumeStep_volumeBalanced (h : s.volumeBalanced) : (volumeStep s).volumeBalanced := by
  have taken : (volumeTaken s).volumeBalanced := h
  cases hw : s.geo.w with
  | none =>
    rw [volumeStep_unfitted hw]
    exact meterNothing_volumeBalanced taken
  | some w =>
    rw [volumeStep_fitted hw]
    split
    · exact meterNothing_volumeBalanced taken
    · exact routeVolume_volumeBalanced _ taken

theorem runBeltStep_volumeBalanced (lb : Nat) (h : s.volumeBalanced) : (runBeltStep lb s).volumeBalanced := by
  obtain ⟨fields, volumes⟩ := runBeltStep_load lb s
  have vc : (runBeltStep lb s).load.vc = s.load.vc := by rw [fields]
  have vw : (runBeltStep lb s).load.vw = s.load.vw := by rw [fields]
  have vx : (runBeltStep lb s).load.vx = s.load.vx := by rw [fields]
  unfold State.volumeBalanced at h ⊢
  omega

theorem beltStep_volumeBalanced (h : s.volumeBalanced) : (beltStep s).volumeBalanced := by
  obtain e | ⟨lb, e⟩ := beltStep_cases s <;> rw [e]
  · exact h
  · exact runBeltStep_volumeBalanced lb h

/-- After COUNTERS_RESET everything cut is on the belt (R145). -/
theorem resetCounters_volumeBalanced (s : State) : (resetCounters s).volumeBalanced := by
  unfold State.volumeBalanced
  simp [resetCounters, State.beltContent]

/-- The belt content that a warm restart discards is counted in Vx (R160). -/
theorem warmRestart_volumeBalanced (h : s.volumeBalanced) : (warmRestart s).volumeBalanced := by
  unfold State.volumeBalanced at h ⊢
  simp only [warmRestart_load, State.beltContent, volumeOf_nil] at h ⊢
  omega

end

/-! ### Every request, every command and every step -/

/-- COUNTERS_RESET and RESTART reach LOAD, and no other request. -/
theorem serve_volumeBalanced (r : Request) {s : State} (h : s.volumeBalanced) : (serve r s).1.volumeBalanced := by
  cases r
  case countersReset => exact resetCounters_volumeBalanced s
  case restart => exact warmRestart_volumeBalanced h
  all_goals exact volumeBalanced_of_load h (by simp [serve, refuse])

theorem volumeBalanced_linkKeeps : LinkKeeps State.volumeBalanced where
  clp _ _ h := volumeBalanced_of_load h rfl
  permit h := volumeBalanced_of_load h (by simp)
  serve r _ h := serve_volumeBalanced r h

/-- Beside POWER_ON_RESET, the two steps of metering and the link's bytes no event row reaches LOAD. -/
theorem exec_event_volumeBalanced (i : Instr) (s : State) (hq : queuedOf i = none) (h : s.volumeBalanced) :
    ∃ t, exec i s = .next t ∧ t.volumeBalanced := by
  have k := volumeBalanced_linkKeeps
  have framed {u : State} (e : u.load = s.load) : (startTx u).volumeBalanced := k.startTx_kept (volumeBalanced_of_load h e)
  cases i <;> cases hq
  case powerOnReset => exact ⟨_, rfl, volumeBalanced_of_load reset_volumeBalanced (by simp [powerOn]; rfl)⟩
  case volumeStep => exact ⟨_, rfl, k.startTx_kept (volumeStep_volumeBalanced h)⟩
  case beltStep => exact ⟨_, rfl, k.startTx_kept (beltStep_volumeBalanced h)⟩
  case validFrame bytes => exact ⟨_, rfl, k.startTx_kept (k.linkBytes_kept bytes h)⟩
  case frameStart => exact ⟨_, rfl, k.startTx_kept (k.linkByte_kept startByte h)⟩
  case frameLengthError b => exact ⟨_, rfl, k.startTx_kept (k.linkByte_kept b h)⟩
  case transmitEnd => exact ⟨_, rfl, k.pump_kept (k.clp _ h)⟩
  case gapDiscard =>
    refine ⟨_, rfl, framed ?_⟩
    unfold linkGap
    split <;> rfl
  all_goals exact ⟨_, rfl, framed (by simp)⟩

/-- Settles O52: the balance is a property that the link, every event row and a millisecond keep. -/
theorem volumeBalanceKept : Obligations.VolumeBalanceKept := fun _ _ h e =>
  volumeBalanced_linkKeeps.step_kept exec_event_volumeBalanced (fun _ _ h => volumeBalanced_of_load h rfl)
    (fun h => volumeBalanced_of_load h rfl) h e

end Sys2Proof.Machine
end

section
/-! A parcel-list change handed to TQS (R153, R169, R175): the topping test and the permit. -/

namespace Sys2Proof.Machine

section
variable {s u : State}

theorem toppingTest_met (running : s.tqs.conveyor = .running) (met : s.toppingMet = true) :
    toppingTest s = enterConveyor .topping s.toppingCommand s := if_pos ⟨running, met⟩

theorem toppingTest_unmet (h : s.tqs.conveyor ≠ .running ∨ s.toppingMet = false) : toppingTest s = s := by
  refine if_neg fun ⟨running, met⟩ => ?_
  exact h.elim (fun stands => stands running) (fun unmet => Bool.false_ne_true (unmet.symm.trans met))

/-- Of TQS the topping test moves the conveyor and its command alone (R169). -/
theorem toppingTest_tqs (s : State) : (toppingTest s).tqs =
    { s.tqs with conveyor := (toppingTest s).tqs.conveyor, cmd := (toppingTest s).tqs.cmd } := by
  obtain e | ⟨-, -, e⟩ := toppingTest_cases s <;> simp [e]

theorem reportsMade_toppingTest {m : BitVec 9} (hs : ReportKind.state.bit &&& m = ReportKind.state.bit) (s : State) :
    reportsMade m s (toppingTest s) := by
  obtain e | ⟨-, -, e⟩ := toppingTest_cases s <;> rw [e]
  · exact reportsMade_of_kept rfl rfl rfl rfl rfl rfl rfl rfl
  · exact reportsMade_enterConveyor _ _ hs s

theorem reportsMade_handListChange {m : BitVec 9} (hs : ReportKind.state.bit &&& m = ReportKind.state.bit)
    (hp : ReportKind.permit.bit &&& m = ReportKind.permit.bit) (s : State) : reportsMade m s (handListChange s) :=
  (reportsMade_toppingTest hs s).trans (reportsMade_formPermit hp _)

/-- Of TQS a list change moves the conveyor, its command and the permit, which is formed (R169, R175). -/
theorem handListChange_tqs (s : State) : (handListChange s).tqs = { s.tqs with
    conveyor := (handListChange s).tqs.conveyor, cmd := (handListChange s).tqs.cmd
    permit := (handListChange s).permitOf, reasons := (handListChange s).reasonsOf } := by
  obtain ⟨permit, reasons⟩ := formPermit_formed (toppingTest s)
  rw [← handListChange] at permit reasons
  rw [← permit, ← reasons, handListChange, formPermit_tqs, toppingTest_tqs]

theorem handListChange_conveyor (s : State) : (handListChange s).tqs.conveyor = (toppingTest s).tqs.conveyor ∧
    (handListChange s).tqs.cmd = (toppingTest s).tqs.cmd := by
  simp [handListChange]

/-- A conveyor that is not RUNNING goes on (R169). -/
theorem handListChange_not_running (h : s.tqs.conveyor ≠ .running) :
    (handListChange s).tqs.conveyor = s.tqs.conveyor ∧ (handListChange s).tqs.cmd = s.tqs.cmd := by
  have test := handListChange_conveyor s
  rwa [toppingTest_unmet (.inl h)] at test

theorem toppingMet_no_truck (h : s.tqs.trucks = []) : s.toppingMet = false := by
  rw [State.toppingMet, State.head, h]
  rfl

/-- A list change of `u` makes the topping test of a state `s` with its conveyor and its items (R153, R169). -/
theorem handListChange_tested (conveyor : u.tqs.conveyor = s.tqs.conveyor) (cmd : u.tqs.cmd = s.tqs.cmd)
    (items : u.mpr = s.mpr) : toppingTested s (handListChange u) := by
  have trucks : (handListChange u).tqs.trucks = u.tqs.trucks := by rw [handListChange_tqs]
  have near : (handListChange u).nearDischarge = u.nearDischarge := nearDischarge_congr (by simp) (by simp)
  have goesOn (h : u.tqs.conveyor ≠ .running ∨ u.toppingMet = false) :
      (handListChange u).tqs.conveyor = s.tqs.conveyor ∧ (handListChange u).tqs.cmd = s.tqs.cmd := by
    have test := handListChange_conveyor u
    rwa [toppingTest_unmet h, conveyor, cmd] at test
  unfold toppingTested
  rw [trucks, near]
  refine ⟨fun h rest running head met => ?_, fun h rest head below => ?_, fun stands => ?_⟩
  · have test := handListChange_conveyor u
    rw [toppingTest_met (conveyor.trans running) ((toppingMet_iff head).2 met), enterConveyor_tqs] at test
    rw [State.tun, State.env, ← items]
    exact test
  · refine goesOn (.inr (Bool.eq_false_iff.2 fun met => ?_))
    exact ((toppingMet_iff head).1 met).not_gt below
  · exact goesOn (stands.imp (fun still => by rwa [conveyor]) toppingMet_no_truck)

end

end Sys2Proof.Machine
end

section
/-! A volume step (R142 to R144, R147, R148, R153): what is metered, where it goes, and the new parcel. -/

namespace Sys2Proof.Machine

/-! ### The volume of a step (R142, R144) -/

section
variable {s : State} {w p : Int}

/-- A volume of 0, or one that would pass the counter limit, is not counted (R142, R144). -/
theorem volumeStep_nothing (hw : s.geo.w = some w)
    (hp : p = Int.tdiv ((max s.chL.dMeas 0 + max s.chR.dMeas 0) * w * s.tun.swell) 20000)
    (uncounted : p = 0 ∨ 0 < p ∧ 9223372036854775807 < (s.load.vc : Int) + p) :
    volumeStep s = meterNothing (volumeTaken s) := by
  have volume : parcelVolume s.chL.dMeas s.chR.dMeas w s.tun.swell = p.toNat := by rw [hp]; rfl
  rw [volumeStep_fitted hw, volume, Config.counterMax]
  refine if_pos ?_
  omega

theorem volumeStep_routed (hw : s.geo.w = some w)
    (hp : p = Int.tdiv ((max s.chL.dMeas 0 + max s.chR.dMeas 0) * w * s.tun.swell) 20000) (pos : 0 < p)
    (room : (s.load.vc : Int) + p ≤ 9223372036854775807) : volumeStep s = routeVolume p.toNat (volumeTaken s) := by
  have volume : parcelVolume s.chL.dMeas s.chR.dMeas w s.tun.swell = p.toNat := by rw [hp]; rfl
  rw [volumeStep_fitted hw, volume, Config.counterMax]
  refine if_neg ?_
  omega

end

/-! ### Where it goes (R143) -/

theorem loads_iff (d : Disposition) : d.loads = true ↔ d = .mill ∨ d = .clear := by cases d <;> decide

theorem toBelt_iff (s : State) : s.toBelt = true ↔
    ((s.lookup s.drum).disposition = .mill ∨ (s.lookup s.drum).disposition = .clear) ∧ s.geo.lb ≠ none ∧ s.geo.cb ≠ none := by
  simp only [State.toBelt, Bool.and_eq_true, loads_iff, Option.isSome_iff_ne_none, and_assoc]

theorem not_toBelt {s : State} (h : (s.lookup s.drum).disposition = .windrow ∨ (s.lookup s.drum).disposition = .travel ∨
    s.geo.lb = none ∨ s.geo.cb = none) : ¬s.toBelt = true := by
  rw [toBelt_iff]
  rintro ⟨loads, lb, cb⟩
  rcases h with h | h | h | h
  · rw [h] at loads; exact absurd loads (by decide)
  · rw [h] at loads; exact absurd loads (by decide)
  · exact lb h
  · exact cb h

/-- The volume counted as a parcel for the belt (R143). -/
def volumeCounted (p : Nat) (s : State) : State := { s with load := { s.load with vc := s.load.vc + p, lastParcel := p } }

theorem routeVolume_windrow (p : Nat) {s : State} (h : ¬s.toBelt = true) : routeVolume p s =
    { s with load := { s.load with vc := s.load.vc + p, vw := s.load.vw + p, lastParcel := 0 } } := if_neg h

theorem routeVolume_belt (p : Nat) {s : State} (h : s.toBelt = true) : routeVolume p s = newParcel p (volumeCounted p s) :=
  if_pos h

/-! ### The new parcel (R147, R148) -/

/-- The list with the new parcel and the two flags of BLT, before the list change is handed to TQS (R147, R148). -/
def parcelPlaced (p : Nat) (s : State) : State :=
  let r := placeParcel p s.load.parcels
  let u := setFlagIf r.2 .merge { s with load := { s.load with parcels := r.1 } }
  setFlagIf u.beltOver .beltOver u

theorem newParcel_eq (p : Nat) (s : State) : newParcel p s = handListChange (parcelPlaced p s) := rfl

section
variable {s : State} {p : Nat}

theorem newParcel_cst : (newParcel p s).cst = (parcelPlaced p s).cst := by simp [newParcel_eq]

/-- A parcel merged into a full list sets MERGE (R147). -/
theorem newParcel_merge (merged : (placeParcel p s.load.parcels).2 = true) :
    (newParcel p s).cst.flags.getLsbD 6 = true := by
  rw [newParcel_cst]
  simp only [parcelPlaced, merged]
  exact flagSet_setFlagIf_mono _ .beltOver (flagSet_setFlag .merge _)

/-- A belt content above Hc sets BELT_OVER (R148). -/
theorem newParcel_beltOver {hc : Int} (formed : s.hc = some hc) (exceeds : hc < ((newParcel p s).beltContent : Int)) :
    (newParcel p s).cst.flags.getLsbD 7 = true := by
  have above (u : State) (items : u.mpr = s.mpr) (load : u.load = (newParcel p s).load) : u.beltOver = true := by
    have hcu : u.hc = some hc := by rw [← formed, State.hc, State.hc, State.geo, items]
    simp only [State.beltOver, hcu, State.beltContent, load]
    exact decide_eq_true exceeds
  rw [newParcel_cst]
  simp only [parcelPlaced]
  rw [above _ (by simp) (by simp)]
  exact flagSet_setFlag .beltOver _

theorem newParcel_tqs : (newParcel p s).tqs = { s.tqs with
    conveyor := (newParcel p s).tqs.conveyor, cmd := (newParcel p s).tqs.cmd
    permit := (newParcel p s).permitOf, reasons := (newParcel p s).reasonsOf } := by
  have kept : (parcelPlaced p s).tqs = s.tqs := by simp [parcelPlaced]
  rw [newParcel_eq, handListChange_tqs, kept]

theorem newParcel_tested : toppingTested s (newParcel p s) := handListChange_tested (by simp) (by simp) (by simp)

theorem reportsMade_newParcel {m : BitVec 9} (hs : ReportKind.state.bit &&& m = ReportKind.state.bit)
    (hf : ReportKind.fault.bit &&& m = ReportKind.fault.bit) (hp : ReportKind.permit.bit &&& m = ReportKind.permit.bit) :
    reportsMade m s (newParcel p s) := by
  have listed : reportsMade m s { s with load := { s.load with parcels := (placeParcel p s.load.parcels).1 } } :=
    reportsMade_of_kept rfl rfl rfl rfl rfl rfl rfl rfl
  exact ((listed.trans (reportsMade_setFlagIf _ .merge hf _)).trans (reportsMade_setFlagIf _ .beltOver hf _)).trans
    (reportsMade_handListChange hs hp _)

end

/-! ### A step whose volume goes to the belt -/

/-- What a step leaves that puts `n` cm³ on the belt: counted in Vc, kept as the last belt parcel volume, and placed (R143, R144,
R147). -/
def parcelMetered (n : Nat) (s : State) : State := newParcel n (volumeCounted n (volumeTaken s))

section
variable {n : Nat} {s : State}

theorem parcelMetered_load : (parcelMetered n s).load =
    { s.load with vc := s.load.vc + n, lastParcel := n, parcels := (placeParcel n s.load.parcels).1 } := by
  rw [parcelMetered, newParcel_load]
  rfl

theorem parcelMetered_beltContent : (parcelMetered n s).beltContent = s.beltContent + n := by
  rw [State.beltContent, parcelMetered_load]
  exact volumeOf_placeParcel n s.load.parcels

theorem parcelMetered_first (empty : s.load.parcels = []) : (parcelMetered n s).load.parcels = [⟨n, 0⟩] := by
  rw [parcelMetered_load, empty, placeParcel_nil]

section
variable {front : List Parcel} {q : Parcel}

/-- The newest parcel grows where it is near the loading point or the list is full (R147). -/
theorem parcelMetered_grown (list : s.load.parcels = front ++ [q]) (grows : q.pos < 50 ∨ 32 ≤ s.load.parcels.length) :
    (parcelMetered n s).load.parcels = front ++ [{ q with vol := q.vol + n }] := by
  rw [list] at grows
  rw [parcelMetered_load, list, placeParcel_concat]
  split
  next => rfl
  next away => rw [if_pos (grows.resolve_left away)]

theorem parcelMetered_added (list : s.load.parcels = front ++ [q]) (away : 50 ≤ q.pos) (free : s.load.parcels.length < 32) :
    (parcelMetered n s).load.parcels = front ++ [q] ++ [⟨n, 0⟩] := by
  rw [list] at free
  rw [parcelMetered_load, list, placeParcel_concat, if_neg away.not_gt, if_neg free.not_ge]

theorem parcelMetered_merged (list : s.load.parcels = front ++ [q]) (away : 50 ≤ q.pos) (full : 32 ≤ s.load.parcels.length) :
    (parcelMetered n s).cst.flags.getLsbD 6 = true := by
  refine newParcel_merge ?_
  rw [list] at full
  change (placeParcel n s.load.parcels).2 = true
  rw [list, placeParcel_concat, if_neg away.not_gt, if_pos full]

end

theorem parcelMetered_beltOver {hc : Int} (formed : s.hc = some hc) (exceeds : hc < ((parcelMetered n s).beltContent : Int)) :
    (parcelMetered n s).cst.flags.getLsbD 7 = true :=
  newParcel_beltOver (s := volumeCounted n (volumeTaken s)) formed exceeds

theorem parcelMetered_tested : toppingTested s (parcelMetered n s) :=
  newParcel_tested (s := volumeCounted n (volumeTaken s))

theorem parcelMetered_tqs : (parcelMetered n s).tqs = { s.tqs with
    conveyor := (parcelMetered n s).tqs.conveyor, cmd := (parcelMetered n s).tqs.cmd
    permit := (parcelMetered n s).permitOf, reasons := (parcelMetered n s).reasonsOf } :=
  newParcel_tqs (s := volumeCounted n (volumeTaken s))

theorem reportsMade_parcelMetered : reportsMade 0b000010101 s (parcelMetered n s) :=
  have counted : reportsMade 0b000010101 s (volumeCounted n (volumeTaken s)) :=
    reportsMade_of_kept rfl rfl rfl rfl rfl rfl rfl rfl
  counted.trans (reportsMade_newParcel (by decide) (by decide) (by decide))

theorem parcelMetered_eq : parcelMetered n s = { volumeTaken s with
    load := (parcelMetered n s).load, cst := (parcelMetered n s).cst
    tqs := (parcelMetered n s).tqs, clp := (parcelMetered n s).clp } := by
  apply State.eq_of_fields <;> simp [parcelMetered, volumeCounted]

end

/-- Settles O38: the step meters nothing, or it counts a volume for the windrow, or it puts a parcel on the belt. -/
theorem volumeStepMetered : Obligations.VolumeStepMetered := by
  intro s w p
  have acts {t : State} (h : volumeStep s = t) : exec .volumeStep s = .next (startTx t) := by rw [← h]; rfl
  refine ⟨fun hw => acts (volumeStep_unfitted hw), fun hw hp => ⟨fun zero => acts (volumeStep_nothing hw hp (.inl zero)),
    fun pos beyond => acts (volumeStep_nothing hw hp (.inr ⟨pos, beyond⟩)), fun pos room aside => ?_,
    fun pos room loads lb cb => ?_⟩⟩
  · exact acts ((volumeStep_routed hw hp pos room).trans (routeVolume_windrow _ (not_toBelt (s := volumeTaken s) aside)))
  · have belt : (volumeTaken s).toBelt = true := (toBelt_iff (volumeTaken s)).2 ⟨loads, lb, cb⟩
    refine ⟨parcelMetered p.toNat s, acts ((volumeStep_routed hw hp pos room).trans (routeVolume_belt _ belt)), ?_,
      parcelMetered_beltContent, parcelMetered_first, fun _ _ list grows => parcelMetered_grown list grows,
      fun _ _ list away free => parcelMetered_added list away free,
      fun _ _ list away full => parcelMetered_merged list away full,
      fun _ formed exceeds => parcelMetered_beltOver formed exceeds, parcelMetered_tested, parcelMetered_tqs,
      reportsMade_parcelMetered, parcelMetered_eq⟩
    rw [parcelMetered_load]

end Sys2Proof.Machine
end

section
/-! A discharge pass (R150 to R152, R170): what spills, what the head truck takes whole, and the parcel that fills it. -/

namespace Sys2Proof.Machine

/-! ### Operations on the head truck (R150, R151, R170) -/

section
variable {s : State} {h : Truck} {rest : List Truck}

theorem setHead_tqs (f : Truck → Truck) (head : s.tqs.trucks = h :: rest) :
    (setHead f s).tqs = { s.tqs with trucks := f h :: rest } := by
  simp only [setHead, head]

theorem deliver_tqs (n : Nat) (head : s.tqs.trucks = h :: rest) :
    (deliver n s).tqs = { s.tqs with trucks := { h with fill := h.fill + n } :: rest } :=
  setHead_tqs _ head

@[simp] theorem deliver_zero (s : State) : deliver 0 s = s := by
  unfold deliver setHead
  split
  next => rfl
  next h rest head => simp [← head]

/-- Two amounts discharged in turn are their sum. -/
theorem deliver_deliver (a b : Nat) (s : State) : deliver b (deliver a s) = deliver (a + b) s := by
  cases head : s.tqs.trucks <;> simp [deliver, setHead, head, Nat.add_assoc]

theorem headReady_false {t : Truck} (stands : s.headReady = false) (head : s.head = some t) : ¬t.takes = true := by
  rw [State.headReady, head] at stands
  exact Bool.eq_false_iff.1 stands

theorem head_of_trucks (head : s.tqs.trucks = h :: rest) : s.head = some h := by rw [State.head, head, List.head?_cons]

/-- The full head is recorded with its fill and counted, and a conveyor that loads enters HOLD (R151, R170). -/
theorem headFull_tqs (head : s.tqs.trucks = h :: rest) : (headFull s).tqs = { s.tqs with
    trucks := { h with state := .full } :: rest, lastFull := some ⟨h.id, h.target, h.fill⟩
    fullCount := wrapInc s.tqs.fullCount
    conveyor := if s.tqs.conveyor = .running ∨ s.tqs.conveyor = .topping then .hold else s.tqs.conveyor
    cmd := if s.tqs.conveyor = .running ∨ s.tqs.conveyor = .topping then 0 else s.tqs.cmd } := by
  have reported : (fullReported s).tqs = { s.tqs with
      trucks := { h with state := .full } :: rest, lastFull := some ⟨h.id, h.target, h.fill⟩
      fullCount := wrapInc s.tqs.fullCount } := by
    simp only [fullReported, queueReport_frame, recordFull, State.head, setHead_tqs _ head, List.head?_cons]
  rw [headFull_eq, reported]
  split
  · rw [enterConveyor_tqs, reported]
  · exact reported

/-- The head truck after the amount that fills it (R150, R151, R170). -/
theorem headFull_of_delivered (head : s.tqs.trucks = h :: rest) {n : Nat} (full : h.fill + n = h.target * 1000) :
    (headFull (deliver n s)).tqs = { s.tqs with
      trucks := { h with fill := h.target * 1000, state := .full } :: rest
      lastFull := some ⟨h.id, h.target, h.target * 1000⟩, fullCount := wrapInc s.tqs.fullCount
      conveyor := if s.tqs.conveyor = .running ∨ s.tqs.conveyor = .topping then .hold else s.tqs.conveyor
      cmd := if s.tqs.conveyor = .running ∨ s.tqs.conveyor = .topping then 0 else s.tqs.cmd } := by
  have delivered := deliver_tqs n head
  rw [full] at delivered
  rw [headFull_tqs (by rw [delivered]), delivered]

end

/-- A full head as it is reported: of what reports follow, the count of full trucks alone has moved (R151, R170). -/
theorem fullReported_frame (s : State) :
    (∀ x, (fullReported s).ch x = s.ch x) ∧ (fullReported s).mlc = s.mlc ∧ (fullReported s).cst = s.cst ∧
    (fullReported s).tqs.conveyor = s.tqs.conveyor ∧ (fullReported s).tqs.stall = s.tqs.stall ∧
    (fullReported s).tqs.permit = s.tqs.permit ∧
    ∃ u : State, fullReported s = queueReport .truckFull u ∧ u.clp = s.clp := by
  unfold fullReported recordFull setHead
  refine ⟨fun x => ?_, ?_, ?_, ?_, ?_, ?_, _, rfl, ?_⟩
  · cases x <;> (repeat' split) <;> simp
  all_goals (repeat' split) <;> simp

/-- A full head queues TRUCK_FULL (R170). -/
theorem reportsMade_fullReported {m : BitVec 9} (ht : ReportKind.truckFull.bit &&& m = ReportKind.truckFull.bit) (s : State) :
    reportsMade m s (fullReported s) := by
  obtain ⟨ch, mlc, cst, conveyor, -, permit, u, e, clp⟩ := fullReported_frame s
  refine ⟨?_, ?_, ?_, ?_, ?_, ?_⟩
  · rw [e]
    exact (reportsAdded_of_eq m clp).trans (reportsAdded_queueReport .truckFull ht u)
  · rw [mlc, conveyor]
    rintro (⟨x, hx⟩ | hx | hx)
    · simp [ch] at hx
    · exact absurd rfl hx
    · exact absurd rfl hx
  · rintro ⟨x, hx⟩
    exact absurd (by rw [ch]) hx
  · exact fun hx => absurd (by rw [cst]) hx
  · intro _ enabled
    rw [e]
    exact queueReport_pending .truckFull u (by rw [clp]; exact enabled)
  · exact fun hx => absurd permit hx

theorem reportsMade_headFull {m : BitVec 9} (hs : ReportKind.state.bit &&& m = ReportKind.state.bit)
    (ht : ReportKind.truckFull.bit &&& m = ReportKind.truckFull.bit) (s : State) : reportsMade m s (headFull s) := by
  rw [headFull_eq]
  split
  · exact (reportsMade_fullReported ht s).trans (reportsMade_enterConveyor .hold 0 hs _)
  · exact reportsMade_fullReported ht s

theorem reportsMade_deliver (m : BitVec 9) (n : Nat) (s : State) : reportsMade m s (deliver n s) := by
  unfold deliver setHead
  split <;> exact reportsMade_of_kept rfl rfl rfl rfl rfl rfl rfl rfl

theorem reportsMade_spillParcel {m : BitVec 9} (hf : ReportKind.fault.bit &&& m = ReportKind.fault.bit) (q : Parcel)
    (s : State) : reportsMade m s (spillParcel q s) :=
  (reportsMade_of_kept rfl rfl rfl rfl rfl rfl rfl rfl).trans
    (reportsMade_setFlag .spill hf { s with load := { s.load with vs := s.load.vs + q.vol } })

/-! ### One parcel of the pass (R150 to R152) -/

section
variable {lb : Nat} {q : Parcel} {rest : List Parcel} {s : State}

theorem dischargePass_short (short : q.pos < lb) : dischargePass lb (q :: rest) s = (q :: rest, s) := by
  simp only [dischargePass, short, if_true]

theorem dischargePass_spill (reached : lb ≤ q.pos) (stands : s.headReady = false) :
    dischargePass lb (q :: rest) s = dischargePass lb rest (spillParcel q s) := by
  rw [dischargePass, if_neg reached.not_gt]
  split
  next => rfl
  next t head => rw [if_neg (headReady_false stands head)]

theorem dischargePass_whole {t : Truck} (reached : lb ≤ q.pos) (head : s.head = some t) (takes : t.takes = true)
    (below : q.vol < t.need) : dischargePass lb (q :: rest) s = dischargePass lb rest (deliver q.vol s) := by
  simp only [dischargePass, if_neg reached.not_gt, head, takes, below, if_true]

/-- The parcel that meets the need leaves the list, and one that passes it keeps what is left (R151). -/
theorem dischargePass_split {t : Truck} (reached : lb ≤ q.pos) (head : s.head = some t) (takes : t.takes = true)
    (fills : t.need ≤ q.vol) : dischargePass lb (q :: rest) s =
      (if q.vol = t.need then rest else { q with vol := q.vol - t.need } :: rest, headFull (deliver t.need s)) := by
  simp only [dischargePass, if_neg reached.not_gt, head, takes, fills.not_gt, if_true, if_false]
  split
  next exactly => rw [exactly]
  next => rfl

end

/-! ### The whole pass -/

/-- Parcels spilled in turn (R152). -/
def spillAll (ps : List Parcel) (s : State) : State := ps.foldl (fun s q => spillParcel q s) s

theorem spillAll_cons (q : Parcel) (ps : List Parcel) (s : State) : spillAll (q :: ps) s = spillAll ps (spillParcel q s) := rfl

@[simp] theorem spillAll_frame (ps : List Parcel) (s : State) : (spillAll ps s).tqs = s.tqs ∧ (spillAll ps s).mpr = s.mpr ∧
    (spillAll ps s).load.vd = s.load.vd := by
  induction ps generalizing s with
  | nil => exact ⟨rfl, rfl, rfl⟩
  | cons q ps ih => simp [spillAll_cons, ih]

/-- Parcels that spill set SPILL (R152). -/
theorem spillAll_flag {ps : List Parcel} {s : State} (h : ps ≠ [] ∨ s.flagSet .spill = true) :
    (spillAll ps s).flagSet .spill = true := by
  induction ps generalizing s with
  | nil => exact h.resolve_left (fun spills => spills rfl)
  | cons q ps ih => exact ih (.inr (flagSet_setFlag .spill _))

section
variable {lb : Nat} {s : State}

/-- With no truck to take them, the parcels at Lb spill (R152). -/
theorem dischargePass_spills (ps : List Parcel) (stands : s.headReady = false) : dischargePass lb ps s =
    (ps.dropWhile (fun q => lb ≤ q.pos), spillAll (ps.takeWhile (fun q => lb ≤ q.pos)) s) := by
  induction ps generalizing s with
  | nil => rfl
  | cons q ps ih =>
    by_cases reached : lb ≤ q.pos
    · have still : (spillParcel q s).headReady = false := by simpa [State.headReady, State.head] using stands
      rw [dischargePass_spill reached stands, ih still]
      simp [reached, spillAll_cons]
    · rw [dischargePass_short (not_le.1 reached)]
      simp [reached, spillAll]

variable {h : Truck} {trucks : List Truck}

/-- Parcels at Lb whose volumes stay below the need go whole into the head truck (R150). -/
theorem dischargePass_front (head : s.tqs.trucks = h :: trucks) (takes : h.takes = true) {front : List Parcel}
    (rest : List Parcel) (reached : ∀ f ∈ front, lb ≤ f.pos) (below : h.fill + volumeOf front < h.target * 1000) :
    dischargePass lb (front ++ rest) s = dischargePass lb rest (deliver (volumeOf front) s) := by
  induction front generalizing s h with
  | nil => simp
  | cons f front ih =>
    rw [volumeOf_cons] at below
    have need : f.vol < h.need := by unfold Truck.need; omega
    have delivered : (deliver f.vol s).tqs.trucks = { h with fill := h.fill + f.vol } :: trucks := by rw [deliver_tqs _ head]
    have later : ∀ g ∈ front, lb ≤ g.pos := fun g hg => reached g (List.mem_cons_of_mem f hg)
    rw [List.cons_append, dischargePass_whole (reached f List.mem_cons_self) (head_of_trucks head) takes need,
      ih delivered takes later (by dsimp only; omega), deliver_deliver, volumeOf_cons]

/-- A head truck whose need is above the parcels at Lb takes them all (R150). -/
theorem dischargePass_delivers (head : s.tqs.trucks = h :: trucks) (takes : h.takes = true) {ps : List Parcel}
    (below : volumeOf (ps.takeWhile (fun q => lb ≤ q.pos)) < h.target * 1000 - h.fill) : dischargePass lb ps s =
      (ps.dropWhile (fun q => lb ≤ q.pos), deliver (volumeOf (ps.takeWhile (fun q => lb ≤ q.pos))) s) := by
  have reached : ∀ f ∈ ps.takeWhile (fun q => lb ≤ q.pos), lb ≤ f.pos := fun f hf => by
    simpa using List.mem_takeWhile_imp hf
  conv_lhs => rw [← List.takeWhile_append_dropWhile (p := fun q : Parcel => decide (lb ≤ q.pos)) (l := ps)]
  rw [dischargePass_front head takes _ reached (by omega)]
  cases short : ps.dropWhile (fun q => lb ≤ q.pos) with
  | nil => rfl
  | cons q rest =>
    have first := List.head_dropWhile_not (fun q : Parcel => decide (lb ≤ q.pos)) (l := ps) (by simp [short])
    simp only [short, List.head_cons, decide_eq_false_iff_not, not_le] at first
    exact dischargePass_short first

/-- The first parcel at Lb that, with those before it, meets or passes the need fills the truck (R151). -/
theorem dischargePass_fills (head : s.tqs.trucks = h :: trucks) (takes : h.takes = true) {front more : List Parcel}
    {q : Parcel} (reached : ∀ f ∈ front, lb ≤ f.pos) (last : lb ≤ q.pos)
    (below : h.fill + volumeOf front < h.target * 1000) {need : Nat}
    (hneed : need = h.target * 1000 - (h.fill + volumeOf front)) (fills : need ≤ q.vol) :
    dischargePass lb (front ++ q :: more) s =
      (if q.vol = need then more else { q with vol := q.vol - need } :: more,
        headFull (deliver (h.target * 1000 - h.fill) s)) := by
  have delivered : (deliver (volumeOf front) s).head = some { h with fill := h.fill + volumeOf front } :=
    head_of_trucks (by rw [deliver_tqs _ head])
  have total : volumeOf front + (h.target * 1000 - (h.fill + volumeOf front)) = h.target * 1000 - h.fill := by omega
  subst hneed
  rw [dischargePass_front head takes _ reached below, dischargePass_split last delivered takes fills]
  simp only [Truck.need, deliver_deliver, total]
  rfl

end

/-! ### What every pass keeps -/

theorem reportsMade_dischargePass {m : BitVec 9} (hs : ReportKind.state.bit &&& m = ReportKind.state.bit)
    (hf : ReportKind.fault.bit &&& m = ReportKind.fault.bit) (ht : ReportKind.truckFull.bit &&& m = ReportKind.truckFull.bit)
    (lb : Nat) (ps : List Parcel) (s : State) : reportsMade m s (dischargePass lb ps s).2 := by
  induction ps generalizing s with
  | nil => exact reportsMade_of_kept rfl rfl rfl rfl rfl rfl rfl rfl
  | cons q rest ih =>
    have spilled := (reportsMade_spillParcel hf q s).trans (ih (spillParcel q s))
    have filled (n : Nat) : reportsMade m s (headFull (deliver n s)) :=
      (reportsMade_deliver m n s).trans (reportsMade_headFull hs ht _)
    unfold dischargePass
    (repeat' split)
    · exact reportsMade_of_kept rfl rfl rfl rfl rfl rfl rfl rfl
    · exact spilled
    · exact (reportsMade_deliver m q.vol s).trans (ih _)
    · exact filled q.vol
    · exact filled _
    · exact spilled

theorem deliver_stall (n : Nat) (s : State) : (deliver n s).tqs.stall = s.tqs.stall := by
  unfold deliver setHead
  split <;> rfl

theorem headFull_stall (s : State) : (headFull s).tqs.stall = s.tqs.stall := by
  obtain ⟨-, -, -, -, stall, -⟩ := fullReported_frame s
  rw [headFull_eq]
  split
  · rw [enterConveyor_tqs]
    exact stall
  · exact stall

theorem dischargePass_stall (lb : Nat) (ps : List Parcel) (s : State) :
    (dischargePass lb ps s).2.tqs.stall = s.tqs.stall := by
  induction ps generalizing s with
  | nil => rfl
  | cons q rest ih =>
    unfold dischargePass
    (repeat' split) <;> simp [ih, headFull_stall, deliver_stall]

end Sys2Proof.Machine
end

section
/-! A belt step (R149 to R153, R169, R170): the parcels advance, those at Lb are discharged, and the list change is handed on. -/

namespace Sys2Proof.Machine

/-- A parcel advances 10 mm and rests at Lb (R149). -/
theorem advanceParcels_eq (lb : Nat) (ps : List Parcel) :
    advanceParcels lb ps = ps.map (fun q => { q with pos := min (q.pos + 10) lb }) := by
  refine List.map_congr_left fun q _ => ?_
  congr 1
  split <;> omega

section
variable {lb : Nat} {s : State}

/-- The list that a pass leaves, put on the belt. -/
def withParcels (ps : List Parcel) (u : State) : State := { u with load := { u.load with parcels := ps } }

@[simp] theorem withParcels_fields (ps : List Parcel) (u : State) : (withParcels ps u).tqs = u.tqs ∧
    (withParcels ps u).mpr = u.mpr ∧ (withParcels ps u).cst = u.cst ∧
    (withParcels ps u).load = { u.load with parcels := ps } := ⟨rfl, rfl, rfl, rfl⟩

/-- What a belt step is by the outcome of its pass: the list left, and the state that takes the list change (R153). -/
theorem runBeltStep_of_pass {moved ps : List Parcel} {u : State} (hm : moved = advanceParcels lb s.load.parcels)
    (pass : dischargePass lb moved s = (ps, u)) : runBeltStep lb s = handListChange (withParcels ps u) := by
  subst hm
  simp only [runBeltStep_eq, discharged, pass, withParcels]

/-- What TQS, handed a list change, keeps (R153). -/
theorem handListChange_kept (ps : List Parcel) (u : State) :
    (handListChange (withParcels ps u)).load = { u.load with parcels := ps } ∧
    (handListChange (withParcels ps u)).cst = u.cst ∧
    (handListChange (withParcels ps u)).tqs.trucks = u.tqs.trucks ∧
    (handListChange (withParcels ps u)).tqs.lastFull = u.tqs.lastFull ∧
    (handListChange (withParcels ps u)).tqs.fullCount = u.tqs.fullCount := by
  rw [handListChange_tqs]
  simp

/-- Two records of TQS with one stall count. -/
theorem Tqs.eq_of_stall {a b : Tqs} (stall : b.stall = a.stall) : b = { a with
    trucks := b.trucks, conveyor := b.conveyor, cmd := b.cmd, lastFull := b.lastFull, fullCount := b.fullCount
    permit := b.permit, reasons := b.reasons } := by
  cases a
  cases b
  cases stall
  rfl

theorem runBeltStep_tqs : (runBeltStep lb s).tqs = { s.tqs with
    trucks := (runBeltStep lb s).tqs.trucks, conveyor := (runBeltStep lb s).tqs.conveyor
    cmd := (runBeltStep lb s).tqs.cmd, lastFull := (runBeltStep lb s).tqs.lastFull
    fullCount := (runBeltStep lb s).tqs.fullCount
    permit := (runBeltStep lb s).permitOf, reasons := (runBeltStep lb s).reasonsOf } := by
  have stall : (runBeltStep lb s).tqs.stall = s.tqs.stall := by
    rw [runBeltStep_eq, handListChange_tqs]
    exact dischargePass_stall lb _ s
  obtain ⟨permit, reasons⟩ : (runBeltStep lb s).permitFormed := formPermit_formed _
  rw [← permit, ← reasons]
  exact Tqs.eq_of_stall stall

theorem reportsMade_runBeltStep : reportsMade 0b000011101 s (runBeltStep lb s) := by
  have passed : reportsMade 0b000011101 s (discharged lb s) :=
    (reportsMade_dischargePass (by decide) (by decide) (by decide) lb (advanceParcels lb s.load.parcels) s).trans
      (reportsMade_of_kept rfl rfl rfl rfl rfl rfl rfl rfl)
  exact passed.trans (reportsMade_handListChange (by decide) (by decide) _)

variable {moved : List Parcel}

/-- With no truck to take them, the parcels at Lb spill, and the topping test is made (R152, R153). -/
theorem runBeltStep_spills (hm : moved = advanceParcels lb s.load.parcels) (stands : s.headReady = false) :
    (runBeltStep lb s).load.parcels = moved.dropWhile (fun q => lb ≤ q.pos) ∧ (runBeltStep lb s).load.vd = s.load.vd ∧
    (runBeltStep lb s).tqs.trucks = s.tqs.trucks ∧ (runBeltStep lb s).tqs.lastFull = s.tqs.lastFull ∧
    (runBeltStep lb s).tqs.fullCount = s.tqs.fullCount ∧ toppingTested s (runBeltStep lb s) ∧
    (moved.takeWhile (fun q => lb ≤ q.pos) ≠ [] → (runBeltStep lb s).cst.flags.getLsbD 8 = true) ∧
    (moved.takeWhile (fun q => lb ≤ q.pos) = [] →
      (runBeltStep lb s).cst = s.cst ∧ (runBeltStep lb s).load.vs = s.load.vs) := by
  obtain ⟨tqs, mpr, vd⟩ := spillAll_frame (moved.takeWhile (fun q => lb ≤ q.pos)) s
  rw [runBeltStep_of_pass hm (dischargePass_spills moved stands)]
  obtain ⟨load, cst, trucks, lastFull, fullCount⟩ := handListChange_kept
    (moved.dropWhile (fun q => lb ≤ q.pos)) (spillAll (moved.takeWhile (fun q => lb ≤ q.pos)) s)
  rw [load, cst, trucks, lastFull, fullCount, tqs]
  refine ⟨rfl, vd, rfl, rfl, rfl, handListChange_tested (by simp) (by simp) mpr,
    fun spills => spillAll_flag (.inl spills), fun empty => ?_⟩
  rw [empty]
  exact ⟨rfl, rfl⟩

variable {h : Truck} {rest : List Truck}

/-- A head truck whose need is above the parcels at Lb takes them, and the topping test is made (R150, R153). -/
theorem runBeltStep_delivers {v : Nat} (hm : moved = advanceParcels lb s.load.parcels) (head : s.tqs.trucks = h :: rest)
    (takes : h.takes = true) (hv : v = volumeOf (moved.takeWhile (fun q => lb ≤ q.pos)))
    (below : v < h.target * 1000 - h.fill) :
    (runBeltStep lb s).load.parcels = moved.dropWhile (fun q => lb ≤ q.pos) ∧ (runBeltStep lb s).load.vs = s.load.vs ∧
    (runBeltStep lb s).cst = s.cst ∧ (runBeltStep lb s).tqs.trucks = { h with fill := h.fill + v } :: rest ∧
    (runBeltStep lb s).load.vd = s.load.vd + v ∧ (runBeltStep lb s).tqs.lastFull = s.tqs.lastFull ∧
    (runBeltStep lb s).tqs.fullCount = s.tqs.fullCount ∧ toppingTested s (runBeltStep lb s) := by
  subst hv
  have tqs := deliver_tqs (volumeOf (moved.takeWhile (fun q => lb ≤ q.pos))) head
  rw [runBeltStep_of_pass hm (dischargePass_delivers head takes below)]
  obtain ⟨load, cst, trucks, lastFull, fullCount⟩ := handListChange_kept
    (moved.dropWhile (fun q => lb ≤ q.pos)) (deliver (volumeOf (moved.takeWhile (fun q => lb ≤ q.pos))) s)
  rw [load, cst, trucks, lastFull, fullCount, tqs]
  exact ⟨rfl, by simp, by simp, rfl, by simp, rfl, rfl, handListChange_tested (by simp [tqs]) (by simp [tqs]) (by simp)⟩

/-- The parcel that fills the head truck is split, and a conveyor that loads enters HOLD (R151, R170). -/
theorem runBeltStep_fills {front more : List Parcel} {q : Parcel} {need : Nat}
    (hm : moved = advanceParcels lb s.load.parcels) (head : s.tqs.trucks = h :: rest) (takes : h.takes = true)
    (list : moved = front ++ q :: more) (reached : ∀ f ∈ front, lb ≤ f.pos) (last : lb ≤ q.pos)
    (below : h.fill + volumeOf front < h.target * 1000)
    (hneed : need = h.target * 1000 - (h.fill + volumeOf front)) (fills : need ≤ q.vol) :
    (runBeltStep lb s).load.parcels = (if q.vol = need then more else { q with vol := q.vol - need } :: more) ∧
    (runBeltStep lb s).tqs.trucks = { h with fill := h.target * 1000, state := .full } :: rest ∧
    (runBeltStep lb s).load.vd = s.load.vd + (h.target * 1000 - h.fill) ∧ (runBeltStep lb s).load.vs = s.load.vs ∧
    (runBeltStep lb s).tqs.lastFull = some ⟨h.id, h.target, h.target * 1000⟩ ∧
    (runBeltStep lb s).tqs.fullCount = wrapInc s.tqs.fullCount ∧
    (s.tqs.conveyor = .running ∨ s.tqs.conveyor = .topping →
      (runBeltStep lb s).tqs.conveyor = .hold ∧ (runBeltStep lb s).tqs.cmd = 0) ∧
    (s.tqs.conveyor ≠ .running → s.tqs.conveyor ≠ .topping →
      (runBeltStep lb s).tqs.conveyor = s.tqs.conveyor ∧ (runBeltStep lb s).tqs.cmd = s.tqs.cmd) := by
  subst list
  obtain ⟨u, hu⟩ : ∃ u, u = headFull (deliver (h.target * 1000 - h.fill) s) := ⟨_, rfl⟩
  obtain ⟨ps, hps⟩ : ∃ ps, ps = if q.vol = need then more else { q with vol := q.vol - need } :: more := ⟨_, rfl⟩
  have tqs := headFull_of_delivered head (n := h.target * 1000 - h.fill) (by omega)
  have uload : u.load = { s.load with vd := s.load.vd + (h.target * 1000 - h.fill) } := by simp [hu]
  rw [← hu] at tqs
  rw [runBeltStep_of_pass hm (dischargePass_fills head takes reached last below hneed fills), ← hu, ← hps]
  have halted : (withParcels ps u).tqs.conveyor ≠ .running := by
    simp only [withParcels_fields, tqs]
    split
    next => exact nofun
    next still => exact fun running => still (.inl running)
  obtain ⟨load, -, trucks, lastFull, fullCount⟩ := handListChange_kept ps u
  obtain ⟨conveyor, cmd⟩ := handListChange_not_running halted
  rw [load, trucks, lastFull, fullCount, conveyor, cmd, (withParcels_fields ps u).1, tqs, uload]
  exact ⟨rfl, rfl, rfl, rfl, rfl, rfl, fun loads => ⟨if_pos loads, if_pos loads⟩,
    fun still steady => ⟨if_neg (not_or.2 ⟨still, steady⟩), if_neg (not_or.2 ⟨still, steady⟩)⟩⟩

end

theorem wrapInc_ne (n : Nat) : wrapInc n ≠ n := by
  unfold wrapInc Config.count16Max
  split <;> omega

/-- Settles O39: the pass spills, delivers, or fills the head truck. -/
theorem beltStepDischarge : Obligations.BeltStepDischarge := by
  have acts {s t : State} (h : beltStep s = t) : exec .beltStep s = .next (startTx t) := by rw [← h]; rfl
  refine ⟨fun s empty => acts (beltStep_empty empty), fun s lb moved hlb loaded hm _ => ?_⟩
  rw [← advanceParcels_eq] at hm
  obtain ⟨load, volumes⟩ := runBeltStep_load lb.toNat (beltTaken s)
  have made : reportsMade 0b000011101 s (runBeltStep lb.toNat (beltTaken s)) :=
    (reportsMade_trc _ s _).trans reportsMade_runBeltStep
  refine ⟨runBeltStep lb.toNat (beltTaken s), acts (beltStep_loaded hlb loaded), load, volumes,
    fun stands => runBeltStep_spills (s := beltTaken s) hm stands,
    fun h rest head takes below => runBeltStep_delivers (s := beltTaken s) hm head takes rfl below,
    fun h rest front q more need head takes list reached last below hneed fills => ?_, runBeltStep_tqs, made, ?_⟩
  · obtain ⟨parcels, trucks, vd, vs, lastFull, fullCount, loads, goesOn⟩ :=
      runBeltStep_fills (s := beltTaken s) hm head takes list reached last below hneed fills
    obtain ⟨-, -, -, -, truckFull, -⟩ := made
    exact ⟨parcels, trucks, vd, vs, lastFull, fullCount,
      truckFull (by rw [fullCount]; exact wrapInc_ne s.tqs.fullCount), loads, goesOn⟩
  · apply State.eq_of_fields <;> simp [beltTaken]

end Sys2Proof.Machine
end

section
/-! COUNTERS_RESET (R145): the five counters after it, and its reply. -/

namespace Sys2Proof.Machine

/-- The five counters and B as COUNTERS_RESET leaves them (R145, R202). -/
theorem fVolumes_resetCounters (s : State) : fVolumes (resetCounters s) =
    bytesBE 8 s.beltContent ++ bytesBE 8 0 ++ bytesBE 8 0 ++ bytesBE 8 0 ++ bytesBE 8 0 ++ bytesBE 8 s.beltContent := rfl

/-- Settles O40: on a free link the request is answered at once with the counters that it leaves. -/
theorem countersReset : Obligations.CountersReset := fun s tag free =>
  exec_answered (q := ⟨tag, .countersReset⟩) rfl free (congrArg (accept · (resetCounters s)) (fVolumes_resetCounters s))

end Sys2Proof.Machine
end

section
/-! The advance permit (R174, R175): what it is formed from, which events form it again, and that every step leaves it formed. -/

namespace Sys2Proof.Machine

/-! ### What the permit is formed from (R174) -/

/-- `t` has the permit of `s` and gives R174 the same inputs. -/
structure SamePermit (s t : State) : Prop where
  eStop : t.eStop = s.eStop
  silent : t.clp.silent = s.clp.silent
  source : t.sourceInput = s.sourceInput
  conveyor : t.conveyorInput = s.conveyorInput
  permit : t.tqs.permit = s.tqs.permit
  reasons : t.tqs.reasons = s.tqs.reasons

theorem SamePermit.trans {s t u : State} (h : SamePermit s t) (g : SamePermit t u) : SamePermit s u :=
  ⟨g.eStop.trans h.eStop, g.silent.trans h.silent, g.source.trans h.source, g.conveyor.trans h.conveyor,
    g.permit.trans h.permit, g.reasons.trans h.reasons⟩

/-- The permit reads its inputs alone (R174). -/
theorem SamePermit.permitFormed {s t : State} (h : SamePermit s t) (formed : s.permitFormed) : t.permitFormed := by
  obtain ⟨permit, reasons⟩ := formed
  have inputs : t.permitOf = s.permitOf := by simp only [State.permitOf, h.eStop, h.silent, h.source, h.conveyor]
  refine ⟨by rw [h.permit, inputs, permit], ?_⟩
  rw [h.reasons, reasons]
  simp only [State.reasonsOf, inputs, h.eStop, h.silent, h.source, h.conveyor]

/-- Of the target, PLT, the conveyor, the belt and the items, what R174 reads. -/
theorem conveyorInput_congr {s t : State} (target : t.target = s.target) (disposition : t.plt.disposition = s.plt.disposition)
    (conveyor : t.tqs.conveyor = s.tqs.conveyor) (parcels : t.load.parcels = s.load.parcels) (hc : t.hc = s.hc)
    (limit : t.loadingLimit = s.loadingLimit) (lp : t.tun.lp = s.tun.lp) : t.conveyorInput = s.conveyorInput := by
  have near : t.nearLoading = s.nearLoading := by rw [State.nearLoading, State.nearLoading, parcels, lp]
  have content : t.beltContent = s.beltContent := by rw [State.beltContent, State.beltContent, parcels]
  have contribution : t.conveyorContribution = s.conveyorContribution := by
    unfold State.conveyorContribution
    rw [conveyor, hc, limit, near, content]
  have considered : t.conveyorConsidered = s.conveyorConsidered := by
    unfold State.conveyorConsidered
    rw [target, disposition]
  rw [State.conveyorInput, State.conveyorInput, considered, contribution]

theorem SamePermit.of_frame {s t : State} (h : t.eStop = s.eStop ∧ t.clp.silent = s.clp.silent ∧ t.chL = s.chL ∧
    t.chR = s.chR ∧ t.target = s.target ∧ t.plt.disposition = s.plt.disposition ∧ t.tqs.conveyor = s.tqs.conveyor ∧
    t.tqs.permit = s.tqs.permit ∧ t.tqs.reasons = s.tqs.reasons ∧ t.load.parcels = s.load.parcels ∧
    t.mpr.params.geo = s.mpr.params.geo ∧ t.mpr.params.tun = s.mpr.params.tun) : SamePermit s t := by
  obtain ⟨eStop, silent, chL, chR, target, disposition, conveyor, permit, reasons, parcels, geo, tun⟩ := h
  refine ⟨eStop, silent, by rw [State.sourceInput, State.sourceInput, chL, chR],
    conveyorInput_congr target disposition conveyor parcels ?_ ?_ ?_, permit, reasons⟩
  · rw [State.hc, State.hc, State.geo, State.geo, geo]
  · rw [State.loadingLimit, State.loadingLimit, State.geo, State.geo, State.tun, State.tun, geo, tun]
  · rw [State.tun, State.tun, tun]

/-- A channel asks by its state and the cause SOURCE alone (R174). -/
theorem sourceInput_congr {s t : State} (asks : ∀ x, (t.ch x).state = (s.ch x).state ∧ (t.ch x).holdSource = (s.ch x).holdSource) :
    t.sourceInput = s.sourceInput := by
  obtain ⟨⟨stateL, sourceL⟩, stateR, sourceR⟩ := And.intro (asks .L) (asks .R)
  simp only [ch_L, ch_R] at stateL sourceL stateR sourceR
  simp only [State.sourceInput, Channel.asksSlow, stateL, sourceL, stateR, sourceR]

/-- Channels that have changed beside what R174 reads of them. -/
theorem SamePermit.of_channels {s t : State}
    (asks : ∀ x, (t.ch x).state = (s.ch x).state ∧ (t.ch x).holdSource = (s.ch x).holdSource)
    (rest : SamePermit { s with chL := t.chL, chR := t.chR } t) : SamePermit s t :=
  SamePermit.trans (t := { s with chL := t.chL, chR := t.chR })
    ⟨rfl, rfl, sourceInput_congr fun x => by cases x <;> [exact asks .L; exact asks .R], rfl, rfl, rfl⟩ rest

theorem asks_of_side {s t : State} {x : Side}
    (own : (t.ch x).state = (s.ch x).state ∧ (t.ch x).holdSource = (s.ch x).holdSource)
    (other : t.ch x.other = s.ch x.other) (y : Side) :
    (t.ch y).state = (s.ch y).state ∧ (t.ch y).holdSource = (s.ch y).holdSource := by
  by_cases e : y = x
  · rwa [e]
  · obtain rfl : y = x.other := by cases x <;> cases y <;> simp_all [Side.other]
    exact ⟨by rw [other], by rw [other]⟩

/-! ### The shared operations -/

section
variable {s : State}

theorem queueReport_permitFormed (k : ReportKind) (h : s.permitFormed) : (queueReport k s).permitFormed :=
  (SamePermit.of_frame (by simp)).permitFormed h

/-- A changed disposition forms the permit again (R22, R175). -/
theorem reformDisposition_permitFormed (h : s.permitFormed) : (reformDisposition s).permitFormed := by
  unfold reformDisposition
  dsimp only
  split
  next same => exact (SamePermit.of_frame (by simp [same])).permitFormed h
  next => exact formPermit_formed _

theorem setFlagIf_samePermit (b : Bool) (f : Flag) (s : State) : SamePermit s (setFlagIf b f s) := .of_frame (by simp)

theorem formCommand_permitFormed (h : s.permitFormed) : (formCommand s).permitFormed := by
  rw [formCommand_eq]
  exact (SamePermit.of_frame (by simp)).permitFormed h

/-- A stall stops the conveyor and forms the permit again (R173, R175). -/
theorem keepStall_permitFormed (h : s.permitFormed) : (keepStall s).permitFormed := by
  unfold keepStall
  (repeat' split)
  · exact formPermit_formed _
  · exact (SamePermit.of_frame (by simp)).permitFormed h
  · exact (SamePermit.of_frame (by simp)).permitFormed h

/-! ### The events -/

theorem speedInterval_permitFormed (h : s.permitFormed) : (speedInterval s).permitFormed :=
  formCommand_permitFormed (keepStall_permitFormed
    ((SamePermit.of_frame (by simp [measureSpeeds])).permitFormed (t := measureSpeeds s) h))

theorem travelPulse_permitFormed (forward : Bool) (h : s.permitFormed) : (travelPulse forward s).permitFormed := by
  obtain ⟨-, e⟩ | ⟨-, -, e⟩ | ⟨-, -, e⟩ := travelPulse_cases forward s <;> rw [e]
  · exact (SamePermit.of_frame (by simp)).permitFormed h
  · exact (SamePermit.of_frame (by simp)).permitFormed h
  · exact reformDisposition_permitFormed ((SamePermit.of_frame (by simp [pulseCounted])).permitFormed h)

/-- A volume that goes to the belt hands TQS a list change, and any other leaves the list (R143, R153). -/
theorem volumeStep_permitFormed (h : s.permitFormed) : (volumeStep s).permitFormed := by
  unfold volumeStep
  dsimp only
  split
  · exact (SamePermit.of_frame (by simp [meterNothing])).permitFormed h
  · split
    · exact (SamePermit.of_frame (by simp [meterNothing])).permitFormed h
    · unfold routeVolume
      split
      · exact formPermit_formed _
      · exact (SamePermit.of_frame (by simp)).permitFormed h

/-- A belt step on parcels hands TQS a list change (R153). -/
theorem beltStep_permitFormed (h : s.permitFormed) : (beltStep s).permitFormed := by
  obtain e | ⟨lb, e⟩ := beltStep_cases s <;> rw [e]
  · exact (SamePermit.of_frame (by simp [beltTaken])).permitFormed h
  · exact formPermit_formed _

theorem spliceStep_permitFormed (h : s.permitFormed) : (spliceStep s).permitFormed := by
  unfold spliceStep
  split
  next =>
    unfold takeSpliceStep
    dsimp only
    split
    · exact (SamePermit.of_frame (by simp [suspendSplice])).permitFormed h
    · exact reformDisposition_permitFormed ((SamePermit.of_frame (by simp)).permitFormed h)
  next => exact h

theorem spliceFinalStep_permitFormed (h : s.permitFormed) : (spliceFinalStep s).permitFormed := by
  unfold spliceFinalStep
  (repeat' split)
  · exact (SamePermit.of_frame (by simp [suspendSplice])).permitFormed h
  · refine queueReport_permitFormed .splice (reformDisposition_permitFormed ?_)
    exact (SamePermit.of_frame (by simp)).permitFormed h
  · exact h

/-- A step 2 that changes the channel forms the permit again, and one that does not leaves it (R49, R175). -/
theorem applySource_permitFormed (x : Side) (valid : Bool) (h : s.permitFormed) : (applySource x valid s).permitFormed := by
  by_cases same : (s.ch x).judged valid = s.ch x
  · rw [applySource_eq, if_pos same]
    exact (setFlagIf_samePermit _ _ s).permitFormed h
  · exact applySource_permit same

/-- After step 2 a cycle changes nothing that R174 reads. -/
theorem activeCycle_samePermit (x : Side) (drum : Int) (s : State) : SamePermit (sourced x s) (activeCycle x drum s) :=
  .of_channels (activeCycle_asks x drum s) (.of_frame (by simp [activeCycle_sourced_tqs, sourced]))

theorem setCh_samePermit {x : Side} {c : Channel} (s : State) (state : c.state = (s.ch x).state)
    (source : c.holdSource = (s.ch x).holdSource) : SamePermit s (s.setCh x c) :=
  .of_channels (asks_of_side (x := x) (by rw [setCh_ch]; exact ⟨state, source⟩) (setCh_ch_other s x c))
    (.of_frame (by simp))

theorem measured_samePermit (x : Side) (plate leg slope : Nat) (s : State) : SamePermit s (measured x plate leg slope s) := by
  refine .of_channels (asks_of_side (x := x) ?_ (measured_other x plate leg slope s)) (.of_frame ?_)
  · rw [measured_ch]
    exact ⟨rfl, rfl⟩
  · cases x <;> simp [measured, fuseSources]

theorem restingCycle_samePermit (x : Side) (s : State) : SamePermit s (restingCycle x s) := by
  refine .of_channels (asks_of_side (x := x) ?_ (restingCycle_other x s)) (.of_frame (by simp))
  rw [restingCycle_ch]
  exact ⟨rfl, rfl⟩

/-- Of a cycle step 2 alone reaches the permit (R175). -/
theorem loopCycle_permitFormed (x : Side) (plate leg slope : Nat) (h : s.permitFormed) :
    (loopCycle x plate leg slope s).permitFormed := by
  have before := (measured_samePermit x plate leg slope s).permitFormed h
  obtain resting | active := resting_or_active (s.ch x)
  · rw [loopCycle_resting resting]
    exact (restingCycle_samePermit x _).permitFormed before
  · rw [loopCycle_active active]
    refine (activeCycle_samePermit x s.drum _).permitFormed (applySource_permitFormed x _ ?_)
    refine (setCh_samePermit (x := x) _ ?_ ?_).permitFormed before <;> rfl

theorem jogExpiry_permitFormed (x : Side) (h : s.permitFormed) : (jogExpiry x s).permitFormed := by
  unfold jogExpiry
  split
  · exact formPermit_formed _
  · exact h

theorem linkSilence_permitFormed (h : s.permitFormed) : (linkSilence s).permitFormed := by
  unfold linkSilence
  split
  · exact formPermit_formed _
  · exact h

/-! ### SET_PARAM (R180 to R182) -/

/-- While Lb or C_b is unset, neither Hc nor the loading-point limit is formed (R148, R174, R181). -/
theorem limits_of_unset {s : State} (unset : ¬(s.geo.lb.isSome ∧ s.geo.cb.isSome)) : s.hc = none ∧ s.loadingLimit = none := by
  unfold State.hc State.loadingLimit
  cases lb : s.geo.lb <;> cases cb : s.geo.cb <;> simp_all

/-- A row keeps the items that R174 reads, or is the row of Lb, of C_b or of Lp (section 10.1). -/
theorem paramTable_limits : ∀ row ∈ paramTable, ∀ (v : Int) (p : Params),
    ((row.put v p).geo.lb = p.geo.lb ∧ (row.put v p).geo.cb = p.geo.cb ∧ (row.put v p).tun.lp = p.tun.lp) ∨
    (row.id = 4 ∧ (row.put v p).geo.lb.isSome ∧ (row.put v p).geo.cb = p.geo.cb ∧ (row.put v p).tun.lp = p.tun.lp) ∨
    (row.id = 5 ∧ (row.put v p).geo.cb.isSome ∧ (row.put v p).geo.lb = p.geo.lb ∧ (row.put v p).tun.lp = p.tun.lp) ∨
    row.id = 58 := by
  simp only [paramTable, geometryRows, envelopeRows, travelPlanRows, scannerRows, loadingLinkRows, channelRows,
    calibrationRows, List.cons_append, List.nil_append, chanRows, sensorRows, List.forall_mem_cons]
  simp [geoRow, envRow, tunRow, tunRowOk, offsetRow]

/-- The owner's act keeps a formed permit, or forms it again where the write reaches an input of R174 (R175, R181, R182). -/
theorem ownerAct_permitFormed (id : Nat) (h : s.permitFormed) : (ownerAct id s).permitFormed := by
  have pair : (pairComplete s).permitFormed := by
    unfold pairComplete
    split
    · exact formPermit_formed s
    · exact h
  have topping : (writeLt s).permitFormed := by
    unfold writeLt
    dsimp only
    split
    next stays =>
      obtain same | ⟨running, -, moved⟩ := toppingTest_cases s
      · rwa [same]
      · rw [moved, enterConveyor_tqs, running] at stays
        cases stays
    next => exact formPermit_formed _
  have mode : (writeRefMode s).permitFormed := by
    unfold writeRefMode
    split
    · exact h
    · exact (SamePermit.of_frame (by simp)).permitFormed h
  unfold ownerAct
  split
  case h_1 | h_8 => exact reformDisposition_permitFormed h
  case h_2 | h_3 => exact pair
  case h_10 => exact topping
  case h_11 => exact formPermit_formed s
  case h_9 => exact mode
  case h_4 | h_5 | h_6 | h_7 =>
    exact (SamePermit.of_channels (fun x => by cases x <;> exact ⟨rfl, rfl⟩) ⟨rfl, rfl, rfl, rfl, rfl, rfl⟩).permitFormed h
  all_goals exact (SamePermit.of_frame (by simp)).permitFormed h

section
variable {row : ParamRow} {v : Int}

theorem paramWritten_samePermit (hc : (paramWritten row v s).hc = s.hc)
    (limit : (paramWritten row v s).loadingLimit = s.loadingLimit) (lp : (paramWritten row v s).tun.lp = s.tun.lp) :
    SamePermit s (paramWritten row v s) :=
  ⟨rfl, rfl, rfl, conveyorInput_congr rfl rfl rfl rfl hc limit lp, rfl, rfl⟩

/-- A write of Lb or C_b forms the permit again once both are set, and until then no limit is formed (R181). -/
theorem pairWritten_permitFormed (lp : (paramWritten row v s).tun.lp = s.tun.lp)
    (unset : ¬((paramWritten row v s).geo.lb.isSome ∧ (paramWritten row v s).geo.cb.isSome) →
      ¬(s.geo.lb.isSome ∧ s.geo.cb.isSome)) (h : s.permitFormed) : (pairComplete (paramWritten row v s)).permitFormed := by
  unfold pairComplete
  split
  next => exact formPermit_formed _
  next incomplete =>
    obtain ⟨hc, limit⟩ := limits_of_unset incomplete
    obtain ⟨hc', limit'⟩ := limits_of_unset (unset incomplete)
    exact (paramWritten_samePermit (hc.trans hc'.symm) (limit.trans limit'.symm) lp).permitFormed h

theorem writeItem_permitFormed (mem : row ∈ paramTable) (v : Int) (h : s.permitFormed) : (writeItem row v s).permitFormed := by
  change (ownerAct row.id (paramWritten row v s)).permitFormed
  obtain ⟨lb, cb, lp⟩ | ⟨id, lb, cb, lp⟩ | ⟨id, cb, lb, lp⟩ | id := paramTable_limits row mem v s.mpr.params
  · refine ownerAct_permitFormed row.id ((paramWritten_samePermit ?_ ?_ lp).permitFormed h)
    · rw [State.hc, State.hc, State.geo, paramWritten, lb, cb]
    · rw [State.loadingLimit, State.loadingLimit, State.geo, State.tun, paramWritten, lb, cb, lp]
  · rw [id]
    exact pairWritten_permitFormed lp (fun incomplete both => incomplete ⟨lb, cb ▸ both.2⟩) h
  · rw [id]
    exact pairWritten_permitFormed lp (fun incomplete both => incomplete ⟨lb ▸ both.1, cb⟩) h
  · rw [id]
    exact formPermit_formed _

end

theorem serveSetParam_permitFormed (item : Nat) (v : Int) (h : s.permitFormed) : (serveSetParam item v s).1.permitFormed := by
  unfold serveSetParam
  split
  next => exact h
  next row found =>
    (repeat' split)
    · exact h
    · exact (SamePermit.of_frame (by simp [refuseLocked, refuse])).permitFormed h
    · exact h
    · exact h
    · exact writeItem_permitFormed (List.mem_of_find?_eq_some found) v h

/-! ### The trucks and the conveyor (R162 to R171) -/

theorem setHead_samePermit (f : Truck → Truck) (s : State) : SamePermit s (setHead f s) := by
  unfold setHead
  split <;> exact .of_frame (by simp)

theorem headInPosition_permitFormed (h : s.permitFormed) : (headInPosition s).permitFormed := by
  unfold headInPosition
  dsimp only
  split
  · exact formPermit_formed _
  · exact (setHead_samePermit _ s).permitFormed h

/-- A head that leaves a conveyor as it is leaves the permit, and any other forms it again (R164, R175). -/
theorem removeHead_permitFormed (h : s.permitFormed) : (removeHead s).permitFormed := by
  unfold removeHead
  dsimp only
  split
  case h_4 | h_5 => exact (SamePermit.of_frame (by simp)).permitFormed h
  all_goals exact formPermit_formed _

theorem serveTruckAdd_permitFormed (id target : Nat) (h : s.permitFormed) : (serveTruckAdd id target s).1.permitFormed := by
  unfold serveTruckAdd
  (repeat' split)
  · exact h
  · exact h
  · exact h
  · exact (SamePermit.of_frame (by simp [accept])).permitFormed h

theorem serveTruckInPosition_permitFormed (id : Nat) (h : s.permitFormed) : (serveTruckInPosition id s).1.permitFormed := by
  unfold serveTruckInPosition
  (repeat' split)
  · exact h
  · exact h
  · exact headInPosition_permitFormed h
  · exact h
  · exact h

theorem serveTruckAway_permitFormed (id : Nat) (h : s.permitFormed) : (serveTruckAway id s).1.permitFormed := by
  unfold serveTruckAway
  (repeat' split)
  · exact h
  · exact h
  · exact removeHead_permitFormed h
  · exact h
  · exact h

theorem serveTruckRemove_permitFormed (id : Nat) (h : s.permitFormed) : (serveTruckRemove id s).1.permitFormed := by
  unfold serveTruckRemove
  (repeat' split)
  · exact h
  · exact h
  · exact h
  · exact (SamePermit.of_frame (by simp [accept])).permitFormed h
  · exact h

/-! ### Every request -/

theorem serve_permitFormed (r : Request) (h : s.permitFormed) : (serve r s).1.permitFormed := by
  cases r
  case setDatum c =>
    simp only [serve, serveSetDatum]
    (repeat' split)
    · exact h
    · exact h
    · exact h
    · exact reformDisposition_permitFormed ((SamePermit.of_frame (by simp)).permitFormed h)
  case planClear =>
    simp only [serve, servePlanClear]
    (repeat' split)
    · exact h
    · exact h
    · exact reformDisposition_permitFormed ((SamePermit.of_frame (by simp)).permitFormed h)
  case selectTarget source =>
    simp only [serve, serveSelectTarget]
    split
    · exact h
    · exact formPermit_formed _
  case engage side =>
    simp only [serve, serveEngage]
    (repeat' split)
    case h_2.isFalse.isFalse.isFalse.isFalse => exact formPermit_formed _
    all_goals exact h
  case disengage side =>
    simp only [serve, serveDisengage]
    split
    · exact h
    · exact formPermit_formed _
  case jog side valve duration =>
    simp only [serve, serveJog]
    (repeat' split)
    case h_2.isFalse.isFalse.isFalse => exact formPermit_formed _
    all_goals exact h
  case setPoint side mode depth slope =>
    simp only [serve, serveSetPoint]
    (repeat' split)
    case h_1.isFalse.isFalse x _ _ _ _ _ =>
      refine (setCh_samePermit (x := x) s ?_ ?_).permitFormed h <;> rfl
    all_goals exact h
  case setTrim side trim =>
    simp only [serve, serveSetTrim]
    split
    next => exact h
    next x _ => refine (setCh_samePermit (x := x) s ?_ ?_).permitFormed h <;> rfl
  case truckAdd id target => exact serveTruckAdd_permitFormed id target h
  case truckInPosition id => exact serveTruckInPosition_permitFormed id h
  case truckAway id => exact serveTruckAway_permitFormed id h
  case truckRemove id => exact serveTruckRemove_permitFormed id h
  case conveyorStart =>
    simp only [serve, serveConveyorStart]
    (repeat' split)
    · exact h
    · exact h
    · exact h
    · exact formPermit_formed _
  case conveyorStop =>
    simp only [serve, serveConveyorStop]
    split
    · exact h
    · exact formPermit_formed _
  case setParam item v => exact serveSetParam_permitFormed item v h
  case stageSegments | stageClear | splice | spliceResume | spliceAbort =>
    simp only [serve, serveStageSegments, serveStageClear, serveSplice, serveSpliceResume, serveSpliceAbort]
    (repeat' split) <;> exact (SamePermit.of_frame (by simp [accept, refuse])).permitFormed h
  case setCalOpen arg =>
    simp only [serve, serveSetCalOpen, refuseLocked]
    (repeat' split) <;> exact (SamePermit.of_frame (by simp [accept, refuse])).permitFormed h
  case zeroSensor x v =>
    simp only [serve, serveZeroSensor]
    (repeat' split) <;> exact (SamePermit.of_frame (by simp [accept, refuse])).permitFormed h
  case lockEnvelope => exact (SamePermit.of_frame (by simp [serve, serveLockEnvelope, accept])).permitFormed h
  case countersReset =>
    exact (SamePermit.of_frame (by simp [serve, serveCountersReset, resetCounters, accept])).permitFormed h
  case restart => exact formPermit_formed _
  all_goals exact (SamePermit.of_frame (by simp [serve, refuse])).permitFormed h

/-! ### The link (R191 to R193) -/

/-- A change of CLP beside the silence of the link (R174). -/
theorem clp_permitFormed {c : Clp} (silent : c.silent = s.clp.silent) (h : s.permitFormed) :
    ({ s with clp := c } : State).permitFormed :=
  (SamePermit.of_frame (by simp [silent])).permitFormed h

theorem startTx_permitFormed (h : s.permitFormed) : (startTx s).permitFormed := by
  rw [startTx_eq]
  exact clp_permitFormed (by simp) h

theorem takeNext_permitFormed (h : s.permitFormed) : (takeNext s).permitFormed := by
  unfold takeNext
  split
  next q rest _ _ =>
    exact clp_permitFormed rfl (serve_permitFormed q.req (clp_permitFormed (c := { s.clp with buffer := rest }) rfl h))
  next => exact h

theorem pump_permitFormed (h : s.permitFormed) : (pump s).permitFormed :=
  takeNext_permitFormed (startTx_permitFormed (takeNext_permitFormed h))

theorem offerRequest_permitFormed (tag : Byte) (r : Request) (h : s.permitFormed) : (offerRequest tag r s).permitFormed := by
  unfold offerRequest
  split
  · exact pump_permitFormed (clp_permitFormed rfl h)
  · exact pump_permitFormed (clp_permitFormed rfl h)

/-- The end of silence forms the permit again, and on a link that was heard nothing ends (R175, R191). -/
theorem endSilence_permitFormed (h : s.permitFormed) : (endSilence s).permitFormed := by
  unfold endSilence
  dsimp only
  split
  next => exact formPermit_formed _
  next heard => exact clp_permitFormed (Bool.eq_false_iff.2 heard).symm h

theorem applyLinkEvent_permitFormed (e : RxEvent) (h : s.permitFormed) : (applyLinkEvent e s).permitFormed := by
  cases e with
  | nothing => exact h
  | lengthError => exact clp_permitFormed rfl h
  | crcError => exact clp_permitFormed rfl h
  | frame f =>
    unfold applyLinkEvent takeLinkFrame
    dsimp only
    split
    · exact clp_permitFormed rfl h
    · exact offerRequest_permitFormed _ _ (endSilence_permitFormed (clp_permitFormed rfl h))

theorem linkByte_permitFormed (b : Byte) (h : s.permitFormed) : (linkByte s b).permitFormed :=
  applyLinkEvent_permitFormed _ (clp_permitFormed (c := { s.clp with rx := (s.clp.rx.push b).1 }) rfl h)

theorem linkBytes_permitFormed (bytes : List Byte) (h : s.permitFormed) : (bytes.foldl linkByte s).permitFormed := by
  induction bytes generalizing s with
  | nil => exact h
  | cons b rest ih => exact ih (linkByte_permitFormed b h)

/-! ### Every command and every step -/

/-- An event row changes no input of R174, or forms the permit again. -/
theorem exec_event_permitFormed {i : Instr} (hq : queuedOf i = none) (h : s.permitFormed) :
    ∃ t, exec i s = .next t ∧ t.permitFormed := by
  have framed {u : State} (same : SamePermit s u) : (startTx u).permitFormed := startTx_permitFormed (same.permitFormed h)
  cases i <;> cases hq
  case powerOnReset => exact ⟨_, rfl, formPermit_formed _⟩
  case eStopAsserted | eStopReleased => exact ⟨_, rfl, startTx_permitFormed (formPermit_formed _)⟩
  case qualifiedTravelPulse forward => exact ⟨_, rfl, startTx_permitFormed (travelPulse_permitFormed forward h)⟩
  case speedInterval => exact ⟨_, rfl, startTx_permitFormed (speedInterval_permitFormed h)⟩
  case volumeStep => exact ⟨_, rfl, startTx_permitFormed (volumeStep_permitFormed h)⟩
  case beltStep => exact ⟨_, rfl, startTx_permitFormed (beltStep_permitFormed h)⟩
  case loopCycle x plate leg slope => exact ⟨_, rfl, startTx_permitFormed (loopCycle_permitFormed x plate leg slope h)⟩
  case jogExpiry x => exact ⟨_, rfl, startTx_permitFormed (jogExpiry_permitFormed x h)⟩
  case spliceStep => exact ⟨_, rfl, startTx_permitFormed (spliceStep_permitFormed h)⟩
  case spliceFinalStep => exact ⟨_, rfl, startTx_permitFormed (spliceFinalStep_permitFormed h)⟩
  case linkSilence => exact ⟨_, rfl, startTx_permitFormed (linkSilence_permitFormed h)⟩
  case validFrame bytes => exact ⟨_, rfl, startTx_permitFormed (linkBytes_permitFormed bytes h)⟩
  case frameStart => exact ⟨_, rfl, startTx_permitFormed (linkByte_permitFormed startByte h)⟩
  case frameLengthError b => exact ⟨_, rfl, startTx_permitFormed (linkByte_permitFormed b h)⟩
  case transmitEnd => exact ⟨_, rfl, pump_permitFormed (clp_permitFormed rfl h)⟩
  case gapDiscard =>
    refine ⟨_, rfl, framed ?_⟩
    unfold linkGap
    split <;> exact .of_frame (by simp)
  all_goals exact ⟨_, rfl, framed (.of_frame (by simp))⟩

theorem exec_permitFormed {i : Instr} {t : State} (h : s.permitFormed) (e : exec i s = .next t) : t.permitFormed := by
  obtain ⟨u, acts, formed⟩ : ∃ u, exec i s = .next u ∧ u.permitFormed := by
    cases hq : queuedOf i with
    | none => exact exec_event_permitFormed hq h
    | some q => exact ⟨_, exec_request hq s, offerRequest_permitFormed q.tag q.req h⟩
  cases acts.symm.trans e
  exact formed

/-- Beside the timers a millisecond changes the time left of a jog alone (R138). -/
theorem tick_samePermit (s : State) : SamePermit s (tick s) := by
  refine .of_channels (fun x => ?_) (.of_frame (by simp [tick, Clp.tick]))
  cases x <;> simp only [tick, ch_L, ch_R, Channel.tick] <;> split <;> exact ⟨rfl, rfl⟩

end

/-- Settles O54: an event that changes an input of the permit ends in its forming, and the lines take their levels from the permit. -/
theorem permitFormedKept : Obligations.PermitFormedKept := by
  refine ⟨fun s t h e => ?_, fun s => ?_⟩
  · obtain ⟨i, rest, -, e⟩ | ⟨-, i, -, e⟩ | ⟨-, -, rfl⟩ := step_cases e
    · exact exec_permitFormed (s := { s with pending := rest }) ((SamePermit.of_frame (by simp)).permitFormed h) e
    · exact exec_permitFormed h e
    · exact (tick_samePermit s).permitFormed h
  · unfold State.slowLine State.stopLine
    cases s.tqs.permit <;> decide

end Sys2Proof.Machine
end

section
/-! The truck queue and the conveyor (R161 to R171), operation by operation: what the head, a running conveyor and a head that leaves
make of TQS, and their reports. -/

namespace Sys2Proof.Machine

section
variable {s : State} {h : Truck} {rest : List Truck}

/-- The head replaced, and the rest of the queue kept. -/
theorem setHead_eq (f : Truck → Truck) (head : s.tqs.trucks = h :: rest) :
    setHead f s = { s with tqs := { s.tqs with trucks := f h :: rest } } := by
  simp only [setHead, head]

theorem setHead_conveyor (f : Truck → Truck) (s : State) : (setHead f s).tqs.conveyor = s.tqs.conveyor := by
  unfold setHead
  split <;> rfl

theorem reportsMade_setHead (m : BitVec 9) (f : Truck → Truck) (s : State) : reportsMade m s (setHead f s) := by
  unfold setHead
  split <;> exact reportsMade_of_kept rfl rfl rfl rfl rfl rfl rfl rfl

/-! ### The conveyor enters RUNNING (R168) -/

/-- The head LOADING on a conveyor that is about to run (R168). -/
def headLoading (h : Truck) (rest : List Truck) (s : State) : State :=
  { s with tqs := { s.tqs with trucks := { h with state := .loading } :: rest, stall := 0 } }

theorem enterRunning_eq (head : s.tqs.trucks = h :: rest) :
    enterRunning s = toppingTest (enterConveyor .running s.runCommand (headLoading h rest s)) := by
  rw [enterRunning, setHead_eq _ head]
  rfl

/-- A conveyor that enters RUNNING loads its head, and goes on to TOPPING where the head's target is near (R168, R169). -/
theorem enterRunning_tqs (head : s.tqs.trucks = h :: rest) : (enterRunning s).tqs = { s.tqs with
    trucks := { h with state := .loading } :: rest, stall := 0
    conveyor := if h.target * 1000 ≤ h.fill + s.nearDischarge then .topping else .running
    cmd := if h.target * 1000 ≤ h.fill + s.nearDischarge then min s.tun.vbMin s.env.vbMax else s.runCommand } := by
  have running : (enterConveyor .running s.runCommand (headLoading h rest s)).tqs.conveyor = .running := by simp
  have near : (enterConveyor .running s.runCommand (headLoading h rest s)).nearDischarge = s.nearDischarge :=
    nearDischarge_congr (by simp [headLoading]) (by simp [headLoading])
  have met := toppingMet_iff (s := enterConveyor .running s.runCommand (headLoading h rest s))
    (h := { h with state := .loading }) (rest := rest) (by simp [headLoading])
  rw [near] at met
  rw [enterRunning_eq head]
  by_cases tops : h.target * 1000 ≤ h.fill + s.nearDischarge
  · rw [toppingTest_met running (met.2 tops), if_pos tops, if_pos tops]
    simp [headLoading, State.toppingCommand, State.tun, State.env]
  · rw [toppingTest_unmet (.inr (Bool.eq_false_iff.2 fun m => tops (met.1 m))), if_neg tops, if_neg tops]
    simp [headLoading]

theorem reportsMade_enterRunning {m : BitVec 9} (hs : ReportKind.state.bit &&& m = ReportKind.state.bit) (s : State) :
    reportsMade m s (enterRunning s) := by
  refine ((reportsMade_setHead m (fun t => { t with state := .loading }) s).trans ?_).trans (reportsMade_toppingTest hs _)
  exact (reportsMade_of_kept rfl rfl rfl rfl rfl rfl rfl rfl).trans (reportsMade_enterConveyor .running _ hs _)

/-! ### The head in position and the head that leaves (R163, R164) -/

theorem headInPosition_stands (head : s.tqs.trucks = h :: rest) (conveyor : s.tqs.conveyor ≠ .waiting) :
    headInPosition s = { s with tqs := { s.tqs with trucks := { h with state := .inPosition } :: rest } } := by
  rw [headInPosition, setHead_eq _ head]
  exact if_neg conveyor

theorem headInPosition_runs (waiting : s.tqs.conveyor = .waiting) :
    headInPosition s = formPermit (enterRunning (setHead (fun t => { t with state := .inPosition }) s)) := by
  rw [headInPosition]
  exact if_pos ((setHead_conveyor _ s).trans waiting)

/-- The queue without its head. -/
def headGone (s : State) : State := { s with tqs := { s.tqs with trucks := s.tqs.trucks.tail } }

theorem removeHead_stands (conveyor : s.tqs.conveyor = .stopped ∨ s.tqs.conveyor = .waiting) :
    removeHead s = headGone s := by
  unfold removeHead headGone
  obtain stopped | waiting := conveyor
  · simp only [stopped]
  · simp only [waiting]

theorem removeHead_waits (on : s.tqs.conveyor ≠ .stopped) (busy : s.tqs.conveyor ≠ .waiting) :
    removeHead s = formPermit (enterConveyor .waiting 0 (headGone s)) := by
  unfold removeHead headGone
  dsimp only
  split
  case h_4 stopped => exact absurd stopped on
  case h_5 waiting => exact absurd waiting busy
  all_goals rfl

theorem reportsMade_removeHead {m : BitVec 9} (hs : ReportKind.state.bit &&& m = ReportKind.state.bit)
    (hp : ReportKind.permit.bit &&& m = ReportKind.permit.bit) (s : State) : reportsMade m s (removeHead s) := by
  have gone : reportsMade m s (headGone s) := reportsMade_of_kept rfl rfl rfl rfl rfl rfl rfl rfl
  by_cases stands : s.tqs.conveyor = .stopped ∨ s.tqs.conveyor = .waiting
  · rwa [removeHead_stands stands]
  · obtain ⟨on, busy⟩ := not_or.1 stands
    rw [removeHead_waits on busy]
    exact (gone.trans (reportsMade_enterConveyor .waiting 0 hs _)).trans (reportsMade_formPermit hp _)

end

end Sys2Proof.Machine
end

section
/-! The truck queue's invariant (R161, R166 to R170): the queue as a list, the conveyor state that its head allows, and that every step
keeps both. -/

namespace Sys2Proof.Machine

/-! ### The queue and the head's conveyor -/

/-- A truck queue as R161 has it: at most four trucks, each id once, and only the head not WAITING. -/
def queueSound (ts : List Truck) : Prop :=
  ts.length ≤ 4 ∧ (ts.map (·.id)).Nodup ∧ ∀ t ∈ ts.tail, t.state = .waiting

/-- The conveyor's state fits the head's (R166 to R170). -/
def Conveyor.fits (v : Conveyor) (head : Option TruckState) : Prop :=
  match v with
  | .running | .topping => head = some .loading
  | .hold => head = some .full
  | .waiting => head ≠ some .inPosition ∧ head ≠ some .loading
  | .stopped => True

theorem takes_iff (t : Truck) : t.takes = true ↔ t.state = .inPosition ∨ t.state = .loading := by
  simp only [Truck.takes, Bool.or_eq_true, decide_eq_true_eq]

/-- The head is ready when it can take material (R167). -/
theorem headReady_iff (s : State) : s.headReady = true ↔
    s.head.map (·.state) = some .inPosition ∨ s.head.map (·.state) = some .loading := by
  unfold State.headReady
  cases s.head <;> simp [takes_iff]

theorem headReady_cons {s : State} (ready : s.headReady = true) : ∃ h rest, s.tqs.trucks = h :: rest ∧ h.takes = true := by
  unfold State.headReady State.head at ready
  cases trucks : s.tqs.trucks with
  | nil => simp [trucks] at ready
  | cons h rest => exact ⟨h, rest, rfl, by simpa [trucks] using ready⟩

theorem trucksSound_iff (s : State) : s.trucksSound ↔
    queueSound s.tqs.trucks ∧ s.tqs.conveyor.fits (s.tqs.trucks.head?.map (·.state)) := by
  have waits : s.headReady = false ↔ Conveyor.waiting.fits (s.tqs.trucks.head?.map (·.state)) := by
    rw [← Bool.not_eq_true, headReady_iff, not_or]
    rfl
  unfold State.trucksSound queueSound
  rw [and_assoc, and_assoc]
  cases v : s.tqs.conveyor <;> simp only [waits] <;> rfl

section
variable {h : Truck} {rest ts : List Truck}

/-- The head may take another state and another fill. -/
theorem queueSound_head {h' : Truck} (id : h'.id = h.id) (sound : queueSound (h :: rest)) : queueSound (h' :: rest) := by
  obtain ⟨length, ids, waiting⟩ := sound
  exact ⟨length, by rwa [List.map_cons, id], waiting⟩

/-- A head that leaves gives its place to a WAITING truck (R164). -/
theorem queueSound_tail (sound : queueSound ts) : queueSound ts.tail := by
  obtain ⟨length, ids, waiting⟩ := sound
  refine ⟨by rw [List.length_tail]; omega, ?_, fun t mem => waiting t (List.mem_of_mem_tail mem)⟩
  rw [List.map_tail]
  exact ids.tail

/-- A WAITING truck of a new id joins a queue that has room (R162). -/
theorem queueSound_append {t : Truck} (room : ts.length < 4) (new : ∀ u ∈ ts, u.id ≠ t.id) (waits : t.state = .waiting)
    (sound : queueSound ts) : queueSound (ts ++ [t]) := by
  obtain ⟨-, ids, waiting⟩ := sound
  refine ⟨by simpa using room, ?_, fun u mem => ?_⟩
  · rw [List.map_append]
    refine List.nodup_append'.2 ⟨ids, by simp, ?_⟩
    simpa [List.disjoint_singleton] using new
  · cases ts with
    | nil => simp at mem
    | cons h rest =>
      obtain old | new := List.mem_append.1 mem
      · exact waiting u old
      · rw [List.mem_singleton.1 new, waits]

/-- A truck behind the head is taken out (R165). -/
theorem queueSound_filter (p : Truck → Bool) (sound : queueSound (h :: rest)) : queueSound (h :: rest.filter p) := by
  obtain ⟨length, ids, waiting⟩ := sound
  have sub : (h :: rest.filter p).Sublist (h :: rest) := List.filter_sublist.cons_cons h
  exact ⟨sub.length_le.trans length, (sub.map _).nodup ids, fun t mem => waiting t (List.mem_of_mem_filter mem)⟩

end

/-! ### The shared operations -/

section
variable {s t : State}

theorem trucksSound_of_kept (trucks : t.tqs.trucks = s.tqs.trucks) (conveyor : t.tqs.conveyor = s.tqs.conveyor)
    (sound : s.trucksSound) : t.trucksSound := by
  rw [trucksSound_iff] at sound ⊢
  rwa [trucks, conveyor]

theorem trucksSound_of_tqs (tqs : t.tqs = s.tqs) (sound : s.trucksSound) : t.trucksSound :=
  trucksSound_of_kept (by rw [tqs]) (by rw [tqs]) sound

theorem queueReport_trucksSound (k : ReportKind) (sound : s.trucksSound) : (queueReport k s).trucksSound :=
  trucksSound_of_tqs (by simp) sound

theorem formPermit_trucksSound (sound : s.trucksSound) : (formPermit s).trucksSound :=
  trucksSound_of_kept (by simp) (by simp) sound

/-- The conveyor may enter a state that fits the head. -/
theorem enterConveyor_trucksSound {v : Conveyor} (cmd : Int) (queue : queueSound s.tqs.trucks)
    (fits : v.fits (s.tqs.trucks.head?.map (·.state))) : (enterConveyor v cmd s).trucksSound := by
  rw [trucksSound_iff, enterConveyor_tqs]
  exact ⟨queue, fits⟩

theorem stopConveyor_trucksSound (sound : s.trucksSound) : (stopConveyor s).trucksSound := by
  rw [trucksSound_iff, stopConveyor_tqs]
  exact ⟨((trucksSound_iff s).1 sound).1, trivial⟩

theorem toppingTest_trucksSound (sound : s.trucksSound) : (toppingTest s).trucksSound := by
  obtain same | ⟨running, -, moved⟩ := toppingTest_cases s
  · rwa [same]
  · obtain ⟨queue, fits⟩ := (trucksSound_iff s).1 sound
    rw [running] at fits
    rw [moved]
    exact enterConveyor_trucksSound _ queue fits

theorem handListChange_trucksSound (sound : s.trucksSound) : (handListChange s).trucksSound :=
  formPermit_trucksSound (toppingTest_trucksSound sound)

/-- A conveyor that enters RUNNING with a head has that head LOADING (R168). -/
theorem enterRunning_trucksSound {h : Truck} {rest : List Truck} (head : s.tqs.trucks = h :: rest)
    (queue : queueSound s.tqs.trucks) : (enterRunning s).trucksSound := by
  rw [trucksSound_iff, enterRunning_tqs head]
  rw [head] at queue
  refine ⟨queueSound_head rfl queue, ?_⟩
  dsimp only
  split <;> rfl

theorem reformDisposition_trucksSound (sound : s.trucksSound) : (reformDisposition s).trucksSound := by
  obtain ⟨-, -, conveyor, trucks⟩ := reformDisposition_keeps s
  exact trucksSound_of_kept trucks conveyor sound

theorem reformDisposition_trucksSound_of (tqs : t.tqs = s.tqs) (sound : s.trucksSound) : (reformDisposition t).trucksSound :=
  reformDisposition_trucksSound (trucksSound_of_tqs tqs sound)

/-! ### The discharge pass (R150 to R152, R170) -/

/-- A delivery changes the head's fill alone (R150). -/
theorem deliver_trucksSound (n : Nat) (sound : s.trucksSound) : (deliver n s).trucksSound := by
  cases head : s.tqs.trucks with
  | nil => exact trucksSound_of_tqs (by simp [deliver, setHead, head]) sound
  | cons h rest =>
    rw [trucksSound_iff, head] at sound
    rw [trucksSound_iff, deliver_tqs n head]
    exact ⟨queueSound_head rfl sound.1, sound.2⟩

/-- The head that becomes FULL was taking material, so the conveyor was STOPPED or is now in HOLD (R151, R170). -/
theorem headFull_trucksSound {h : Truck} {rest : List Truck} (head : s.tqs.trucks = h :: rest) (takes : h.takes = true)
    (sound : s.trucksSound) : (headFull s).trucksSound := by
  rw [trucksSound_iff, head] at sound
  obtain ⟨queue, fits⟩ := sound
  rw [trucksSound_iff, headFull_tqs head]
  refine ⟨queueSound_head rfl queue, ?_⟩
  cases v : s.tqs.conveyor <;> rw [v] at fits
  case stopped => exact trivial
  case running | topping => rfl
  case hold => obtain on | on := (takes_iff h).1 takes <;> simp [Conveyor.fits, on] at fits
  case waiting => obtain on | on := (takes_iff h).1 takes <;> simp [Conveyor.fits, on] at fits

theorem dischargePass_trucksSound (lb : Nat) (ps : List Parcel) (sound : s.trucksSound) :
    (dischargePass lb ps s).2.trucksSound := by
  induction ps generalizing s with
  | nil => exact sound
  | cons q ps ih =>
    have spilled : (dischargePass lb ps (spillParcel q s)).2.trucksSound := ih (trucksSound_of_tqs (by simp) sound)
    by_cases reached : lb ≤ q.pos
    · cases ready : s.headReady with
      | false => rwa [dischargePass_spill reached ready]
      | true =>
        obtain ⟨h, rest, head, takes⟩ := headReady_cons ready
        obtain below | fills := Nat.lt_or_ge q.vol h.need
        · rw [dischargePass_whole reached (head_of_trucks head) takes below]
          exact ih (deliver_trucksSound q.vol sound)
        · rw [dischargePass_split reached (head_of_trucks head) takes fills]
          exact headFull_trucksSound (h := { h with fill := h.fill + h.need }) (by rw [deliver_tqs _ head]) takes
            (deliver_trucksSound h.need sound)
    · rwa [dischargePass_short (not_le.1 reached)]


theorem beltStep_trucksSound (sound : s.trucksSound) : (beltStep s).trucksSound := by
  obtain e | ⟨lb, e⟩ := beltStep_cases s <;> rw [e]
  · exact sound
  · exact handListChange_trucksSound (dischargePass_trucksSound lb _ (s := beltTaken s) sound)

/-! ### Metering, travel, the belt's speed and the loop -/

theorem volumeStep_trucksSound (sound : s.trucksSound) : (volumeStep s).trucksSound := by
  unfold volumeStep
  dsimp only
  (repeat' split)
  · exact sound
  · exact sound
  · unfold routeVolume
    split
    · exact handListChange_trucksSound (trucksSound_of_tqs (by simp) sound)
    · exact sound

theorem keepStall_trucksSound (sound : s.trucksSound) : (keepStall s).trucksSound := by
  unfold keepStall
  (repeat' split)
  · exact formPermit_trucksSound (stopConveyor_trucksSound (trucksSound_of_tqs (by simp) sound))
  · exact sound
  · exact sound

theorem speedInterval_trucksSound (sound : s.trucksSound) : (speedInterval s).trucksSound := by
  rw [speedInterval, formCommand_eq]
  exact keepStall_trucksSound (s := measureSpeeds s) sound

theorem travelPulse_trucksSound (forward : Bool) (sound : s.trucksSound) : (travelPulse forward s).trucksSound := by
  obtain ⟨-, e⟩ | ⟨-, -, e⟩ | ⟨-, -, e⟩ := travelPulse_cases forward s <;> rw [e]
  · exact trucksSound_of_tqs (by simp) sound
  · exact trucksSound_of_tqs (by simp) sound
  · exact reformDisposition_trucksSound_of (by simp [pulseCounted]) sound

theorem spliceStep_trucksSound (sound : s.trucksSound) : (spliceStep s).trucksSound := by
  unfold spliceStep
  split
  next =>
    unfold takeSpliceStep
    dsimp only
    split
    · exact trucksSound_of_tqs (by simp) sound
    · exact reformDisposition_trucksSound sound
  next => exact sound

theorem spliceFinalStep_trucksSound (sound : s.trucksSound) : (spliceFinalStep s).trucksSound := by
  unfold spliceFinalStep
  (repeat' split)
  · exact trucksSound_of_tqs (by simp) sound
  · exact queueReport_trucksSound .splice (reformDisposition_trucksSound_of rfl sound)
  · exact sound

/-- Of TQS a cycle moves the permit and its reasons at most. -/
theorem loopCycle_trucksSound (x : Side) (plate leg slope : Nat) (sound : s.trucksSound) :
    (loopCycle x plate leg slope s).trucksSound := by
  have before : (measured x plate leg slope s).tqs = s.tqs := by rw [measured_rest]
  have cycle := (loopCycle_keeps x plate leg slope s).tqs
  exact trucksSound_of_kept (by rw [cycle, before]) (by rw [cycle, before]) sound

theorem jogExpiry_trucksSound (x : Side) (sound : s.trucksSound) : (jogExpiry x s).trucksSound := by
  unfold jogExpiry
  split
  · exact formPermit_trucksSound (trucksSound_of_tqs (by simp) sound)
  · exact sound

theorem linkSilence_trucksSound (sound : s.trucksSound) : (linkSilence s).trucksSound := by
  unfold linkSilence
  split
  · exact formPermit_trucksSound (trucksSound_of_tqs (by simp) sound)
  · exact sound

/-- The owner's act at a write reaches TQS by the permit, the disposition and the topping test alone (R181, R182). -/
theorem ownerAct_trucksSound (id : Nat) (sound : s.trucksSound) : (ownerAct id s).trucksSound := by
  have pair : (pairComplete s).trucksSound := by
    unfold pairComplete
    split
    · exact formPermit_trucksSound sound
    · exact sound
  have topping : (writeLt s).trucksSound := by
    unfold writeLt
    dsimp only
    split
    · exact toppingTest_trucksSound sound
    · exact formPermit_trucksSound (toppingTest_trucksSound sound)
  unfold ownerAct
  split
  case h_1 | h_8 => exact reformDisposition_trucksSound sound
  case h_2 | h_3 => exact pair
  case h_10 => exact topping
  case h_11 => exact formPermit_trucksSound sound
  all_goals
    refine trucksSound_of_tqs ?_ sound
    simp [clampDepths, clampSlopes, clampTrims, writeRefMode, apply_ite State.tqs]

/-! ### E-stop and restarts -/

theorem assertEStop_trucksSound (sound : s.trucksSound) : (assertEStop s).trucksSound := by
  rw [trucksSound_iff, assertEStop_tqs]
  exact ⟨((trucksSound_iff s).1 sound).1, trivial⟩

theorem releaseEStop_trucksSound (sound : s.trucksSound) : (releaseEStop s).trucksSound :=
  formPermit_trucksSound (trucksSound_of_tqs (by simp [reformAfterEStop, setEStop]) sound)

/-- A warm restart empties the queue and stops the conveyor (R160). -/
theorem warmRestart_trucksSound (s : State) : (warmRestart s).trucksSound := by
  exact trucksSound_of_kept (s := State.reset) (by rw [warmRestart_tqs]; rfl) (by rw [warmRestart_tqs]; rfl)
    reset_trucksSound

theorem powerOn_trucksSound (s : State) : (powerOn s).trucksSound :=
  trucksSound_of_kept (s := State.reset) (by simp [powerOn]; rfl) (by simp [powerOn]; rfl) reset_trucksSound

/-! ### The truck and conveyor requests (R162 to R171) -/

theorem serveTruckAdd_trucksSound (id target : Nat) (sound : s.trucksSound) : (serveTruckAdd id target s).1.trucksSound := by
  obtain ⟨queue, fits⟩ := (trucksSound_iff s).1 sound
  unfold serveTruckAdd
  (repeat' split)
  · exact sound
  · exact sound
  · exact sound
  next new room =>
    have joined := queueSound_append (t := ⟨id, target, 0, .waiting⟩) (not_le.1 room) (by simpa using new) rfl queue
    refine (trucksSound_iff _).2 ⟨joined, ?_⟩
    cases trucks : s.tqs.trucks with
    | nil =>
      rw [trucks] at fits
      cases v : s.tqs.conveyor <;> simp [Conveyor.fits, v, accept] at fits ⊢
    | cons h rest => simpa [accept, trucks] using fits

/-- A WAITING head has a conveyor that stands, so its coming into position starts a WAITING one and no other (R163, R168). -/
theorem headInPosition_trucksSound {h : Truck} {rest : List Truck} (head : s.tqs.trucks = h :: rest) (waits : h.state = .waiting)
    (sound : s.trucksSound) : (headInPosition s).trucksSound := by
  obtain ⟨queue, fits⟩ := (trucksSound_iff s).1 sound
  rw [head] at queue fits
  have placed : queueSound ({ h with state := .inPosition } :: rest) := queueSound_head rfl queue
  by_cases waiting : s.tqs.conveyor = .waiting
  · rw [headInPosition_runs waiting, setHead_eq _ head]
    exact formPermit_trucksSound (enterRunning_trucksSound rfl placed)
  · rw [headInPosition_stands head waiting, trucksSound_iff]
    refine ⟨placed, ?_⟩
    cases v : s.tqs.conveyor <;> rw [v] at fits
    case stopped => exact trivial
    case waiting => exact absurd v waiting
    case running | topping | hold => simp [Conveyor.fits, waits] at fits

/-- A head that leaves gives its place to a WAITING truck, and the conveyor waits for it (R164). -/
theorem removeHead_trucksSound (sound : s.trucksSound) : (removeHead s).trucksSound := by
  obtain ⟨queue, -⟩ := (trucksSound_iff s).1 sound
  have waits : Conveyor.waiting.fits (s.tqs.trucks.tail.head?.map (·.state)) := by
    obtain ⟨-, -, waiting⟩ := queue
    cases trucks : s.tqs.trucks.tail with
    | nil => exact ⟨by simp, by simp⟩
    | cons t rest => simp [Conveyor.fits, waiting t (by simp [trucks])]
  by_cases stands : s.tqs.conveyor = .stopped ∨ s.tqs.conveyor = .waiting
  · rw [removeHead_stands stands, trucksSound_iff]
    refine ⟨queueSound_tail queue, ?_⟩
    obtain v | v := stands
    · simp only [headGone, v]
      exact trivial
    · simpa only [headGone, v] using waits
  · obtain ⟨on, busy⟩ := not_or.1 stands
    rw [removeHead_waits on busy]
    exact formPermit_trucksSound (enterConveyor_trucksSound 0 (queueSound_tail queue) waits)

theorem serveTruckInPosition_trucksSound (id : Nat) (sound : s.trucksSound) : (serveTruckInPosition id s).1.trucksSound := by
  unfold serveTruckInPosition
  (repeat' split)
  case h_1.isTrue h first waits =>
    obtain ⟨rest, head⟩ := List.head?_eq_some_iff.1 first
    exact headInPosition_trucksSound head waits.2 sound
  all_goals exact sound

theorem serveTruckAway_trucksSound (id : Nat) (sound : s.trucksSound) : (serveTruckAway id s).1.trucksSound := by
  unfold serveTruckAway
  (repeat' split)
  case h_1.isTrue => exact removeHead_trucksSound sound
  all_goals exact sound

/-- The truck taken out is not the head, so the head stays (R165). -/
theorem serveTruckRemove_trucksSound (id : Nat) (sound : s.trucksSound) : (serveTruckRemove id s).1.trucksSound := by
  unfold serveTruckRemove
  (repeat' split)
  case h_1.isFalse h first other =>
    obtain ⟨rest, head⟩ := List.head?_eq_some_iff.1 first
    obtain ⟨queue, fits⟩ := (trucksSound_iff s).1 sound
    have filtered : s.tqs.trucks.filter (fun x => x.id ≠ id) = h :: rest.filter (fun x => x.id ≠ id) := by
      simp [head, other]
    rw [head] at queue fits
    refine (trucksSound_iff _).2 ?_
    simp only [accept, filtered]
    exact ⟨queueSound_filter _ queue, fits⟩
  all_goals exact sound

/-- Switched on, the conveyor runs with a head that takes material, and waits for one otherwise (R167). -/
theorem startConveyor_trucksSound (sound : s.trucksSound) : (startConveyor s).trucksSound := by
  obtain ⟨queue, -⟩ := (trucksSound_iff s).1 sound
  unfold startConveyor
  refine formPermit_trucksSound ?_
  split
  next ready =>
    obtain ⟨h, rest, head, -⟩ := headReady_cons ready
    exact enterRunning_trucksSound head queue
  next stands =>
    rw [headReady_iff, not_or] at stands
    exact enterConveyor_trucksSound 0 queue stands

theorem serveConveyorStart_trucksSound (sound : s.trucksSound) : (serveConveyorStart s).1.trucksSound := by
  unfold serveConveyorStart
  (repeat' split)
  · exact sound
  · exact sound
  · exact sound
  · exact startConveyor_trucksSound sound

theorem serveConveyorStop_trucksSound (sound : s.trucksSound) : (serveConveyorStop s).1.trucksSound := by
  unfold serveConveyorStop
  split
  · exact sound
  · exact formPermit_trucksSound (stopConveyor_trucksSound sound)

theorem serveSetParam_trucksSound (item : Nat) (v : Int) (sound : s.trucksSound) : (serveSetParam item v s).1.trucksSound := by
  unfold serveSetParam
  split
  next => exact sound
  next row _ =>
    (repeat' split)
    · exact sound
    · exact trucksSound_of_tqs (by simp [refuseLocked, refuse]) sound
    · exact sound
    · exact sound
    · exact ownerAct_trucksSound row.id sound

/-! ### Every request, every command and every step -/

theorem serve_trucksSound (r : Request) (sound : s.trucksSound) : (serve r s).1.trucksSound := by
  cases r
  case setDatum c =>
    simp only [serve, serveSetDatum]
    (repeat' split)
    · exact sound
    · exact sound
    · exact sound
    · exact reformDisposition_trucksSound_of rfl sound
  case planClear =>
    simp only [serve, servePlanClear]
    (repeat' split)
    · exact sound
    · exact sound
    · exact reformDisposition_trucksSound_of rfl sound
  case selectTarget source =>
    simp only [serve, serveSelectTarget]
    split
    · exact sound
    · refine formPermit_trucksSound (trucksSound_of_tqs ?_ sound)
      split <;> simp
  case engage side =>
    simp only [serve, serveEngage]
    (repeat' split)
    case h_2.isFalse.isFalse.isFalse.isFalse => exact formPermit_trucksSound (trucksSound_of_tqs (by simp) sound)
    all_goals exact sound
  case disengage side =>
    simp only [serve, serveDisengage]
    split
    · exact sound
    · exact formPermit_trucksSound (trucksSound_of_tqs (by simp) sound)
  case jog side valve duration =>
    simp only [serve, serveJog]
    (repeat' split)
    case h_2.isFalse.isFalse.isFalse => exact formPermit_trucksSound (trucksSound_of_tqs (by simp) sound)
    all_goals exact sound
  case truckAdd id target => exact serveTruckAdd_trucksSound id target sound
  case truckInPosition id => exact serveTruckInPosition_trucksSound id sound
  case truckAway id => exact serveTruckAway_trucksSound id sound
  case truckRemove id => exact serveTruckRemove_trucksSound id sound
  case conveyorStart => exact serveConveyorStart_trucksSound sound
  case conveyorStop => exact serveConveyorStop_trucksSound sound
  case setParam item v => exact serveSetParam_trucksSound item v sound
  case restart => exact warmRestart_trucksSound s
  all_goals exact trucksSound_of_tqs (by simp [serve, refuse]) sound

end

theorem trucksSound_linkKeeps : LinkKeeps State.trucksSound where
  clp _ _ sound := sound
  permit sound := formPermit_trucksSound sound
  serve r _ sound := serve_trucksSound r sound

/-- The event rows that reach the trucks or the conveyor keep them consistent, and the others leave TQS. -/
theorem exec_event_trucksSound (i : Instr) (s : State) (hq : queuedOf i = none) (sound : s.trucksSound) :
    ∃ t, exec i s = .next t ∧ t.trucksSound := by
  have k := trucksSound_linkKeeps
  have framed {u : State} (tqs : u.tqs = s.tqs) : (startTx u).trucksSound := k.startTx_kept (trucksSound_of_tqs tqs sound)
  cases i <;> cases hq
  case powerOnReset => exact ⟨_, rfl, powerOn_trucksSound s⟩
  case eStopAsserted => exact ⟨_, rfl, k.startTx_kept (assertEStop_trucksSound sound)⟩
  case eStopReleased => exact ⟨_, rfl, k.startTx_kept (releaseEStop_trucksSound sound)⟩
  case qualifiedTravelPulse forward => exact ⟨_, rfl, k.startTx_kept (travelPulse_trucksSound forward sound)⟩
  case speedInterval => exact ⟨_, rfl, k.startTx_kept (speedInterval_trucksSound sound)⟩
  case volumeStep => exact ⟨_, rfl, k.startTx_kept (volumeStep_trucksSound sound)⟩
  case beltStep => exact ⟨_, rfl, k.startTx_kept (beltStep_trucksSound sound)⟩
  case loopCycle x plate leg slope => exact ⟨_, rfl, k.startTx_kept (loopCycle_trucksSound x plate leg slope sound)⟩
  case jogExpiry x => exact ⟨_, rfl, k.startTx_kept (jogExpiry_trucksSound x sound)⟩
  case spliceStep => exact ⟨_, rfl, k.startTx_kept (spliceStep_trucksSound sound)⟩
  case spliceFinalStep => exact ⟨_, rfl, k.startTx_kept (spliceFinalStep_trucksSound sound)⟩
  case linkSilence => exact ⟨_, rfl, k.startTx_kept (linkSilence_trucksSound sound)⟩
  case validFrame bytes => exact ⟨_, rfl, k.startTx_kept (k.linkBytes_kept bytes sound)⟩
  case frameStart => exact ⟨_, rfl, k.startTx_kept (k.linkByte_kept startByte sound)⟩
  case frameLengthError b => exact ⟨_, rfl, k.startTx_kept (k.linkByte_kept b sound)⟩
  case transmitEnd => exact ⟨_, rfl, k.pump_kept (k.clp _ sound)⟩
  case gapDiscard =>
    refine ⟨_, rfl, framed ?_⟩
    unfold linkGap
    split <;> rfl
  all_goals exact ⟨_, rfl, framed (by simp)⟩

/-- Settles O58: a consistent queue and conveyor is a property that the link, every event row and a millisecond keep. -/
theorem trucksSoundKept : Obligations.TrucksSoundKept := fun _ _ sound e =>
  trucksSound_linkKeeps.step_kept exec_event_trucksSound (fun _ _ h => h) (fun h => h) sound e

end Sys2Proof.Machine
end

section
/-! The truck requests and the conveyor requests, accepted (R162 to R168, R171). -/

namespace Sys2Proof.Machine

section
variable {s : State} {h : Truck} {rest : List Truck}

/-! ### The permit formed behind a change of the conveyor -/

/-- TQS of a conveyor that has entered RUNNING, or TOPPING at once, under the permit then formed (R168, R169, R175). -/
theorem formPermit_enterRunning_tqs (head : s.tqs.trucks = h :: rest) :
    (formPermit (enterRunning s)).tqs = { s.tqs with
      trucks := { h with state := .loading } :: rest, stall := 0
      conveyor := if h.target * 1000 ≤ h.fill + s.nearDischarge then .topping else .running
      cmd := if h.target * 1000 ≤ h.fill + s.nearDischarge then min s.tun.vbMin s.env.vbMax else s.runCommand
      permit := (formPermit (enterRunning s)).permitOf, reasons := (formPermit (enterRunning s)).reasonsOf } :=
  (formPermit_tqs_of rfl).trans (by rw [enterRunning_tqs head])

theorem removeHead_waits_tqs (on : s.tqs.conveyor ≠ .stopped) (busy : s.tqs.conveyor ≠ .waiting) :
    (removeHead s).tqs = { s.tqs with
      trucks := s.tqs.trucks.tail, conveyor := .waiting, cmd := 0
      permit := (removeHead s).permitOf, reasons := (removeHead s).reasonsOf } := by
  rw [removeHead_waits on busy]
  exact (formPermit_tqs_of rfl).trans (by rw [enterConveyor_tqs]; rfl)

theorem headInPosition_runs_tqs (head : s.tqs.trucks = h :: rest) (waiting : s.tqs.conveyor = .waiting) :
    (headInPosition s).tqs = { s.tqs with
      trucks := { h with state := .loading } :: rest, stall := 0
      conveyor := if h.target * 1000 ≤ h.fill + s.nearDischarge then .topping else .running
      cmd := if h.target * 1000 ≤ h.fill + s.nearDischarge then min s.tun.vbMin s.env.vbMax else s.runCommand
      permit := (headInPosition s).permitOf, reasons := (headInPosition s).reasonsOf } := by
  rw [headInPosition_runs waiting, setHead_eq _ head]
  exact formPermit_enterRunning_tqs (h := { h with state := .inPosition }) rfl

theorem reportsMade_headInPosition {m : BitVec 9} (hs : ReportKind.state.bit &&& m = ReportKind.state.bit)
    (hp : ReportKind.permit.bit &&& m = ReportKind.permit.bit) (s : State) : reportsMade m s (headInPosition s) := by
  have placed := reportsMade_setHead m (fun t => { t with state := .inPosition }) s
  unfold headInPosition
  dsimp only
  split
  · exact (placed.trans (reportsMade_enterRunning hs _)).trans (reportsMade_formPermit hp _)
  · exact placed

/-! ### What the requests answer -/

theorem truckIdOk_of {id : Nat} (low : 1 ≤ id) (high : id ≤ 65535) : truckIdOk id = true := by simp [truckIdOk, low, high]

theorem hasTruck_iff (s : State) (id : Nat) : s.hasTruck id = true ↔ ∃ t ∈ s.tqs.trucks, t.id = id := by
  simp [State.hasTruck]

theorem hasTruck_head (head : s.tqs.trucks = h :: rest) : s.hasTruck h.id = true :=
  (hasTruck_iff s h.id).2 ⟨h, by simp [head], rfl⟩

theorem serveTruckAdd_accepted {id target : Nat} (low : 1 ≤ id) (high : id ≤ 65535) (enough : 1000 ≤ target)
    (limit : (target : Int) ≤ s.env.truckMax) (new : ∀ t ∈ s.tqs.trucks, t.id ≠ id) (room : s.tqs.trucks.length < 4) :
    serveTruckAdd id target s =
      ({ s with tqs := { s.tqs with trucks := s.tqs.trucks ++ [⟨id, target, 0, .waiting⟩] } },
        ⟨.ok, [BitVec.ofNat 8 (s.tqs.trucks.length + 1)]⟩) := by
  have inRange : (truckIdOk id && within 1000 s.env.truckMax target) = true := by
    have target_low : (1000 : Int) ≤ target := by omega
    simp [truckIdOk_of low high, within, target_low, limit]
  have absent : ¬s.tqs.trucks.any (fun t => t.id = id) = true := by simpa using new
  rw [serveTruckAdd, if_neg (by simp [inRange]), if_neg absent, if_neg room.not_ge]
  simp [accept, f8_eq]

theorem serveTruckRemove_accepted {id : Nat} (low : 1 ≤ id) (high : id ≤ 65535) (head : s.tqs.trucks = h :: rest)
    (other : h.id ≠ id) (behind : ∃ t ∈ rest, t.id = id) :
    serveTruckRemove id s =
      ({ s with tqs := { s.tqs with trucks := h :: rest.filter (fun t => t.id ≠ id) } }, ⟨.ok, []⟩) := by
  obtain ⟨t, mem, same⟩ := behind
  have present : s.hasTruck id = true := (hasTruck_iff s id).2 ⟨t, by simp [head, mem], same⟩
  rw [serveTruckRemove, if_neg (by simp [truckIdOk_of low high]), if_neg (by simp [present]), head_of_trucks head]
  simp [accept, head, other]

theorem serveTruckInPosition_accepted (low : 1 ≤ h.id) (high : h.id ≤ 65535) (head : s.tqs.trucks = h :: rest)
    (waits : h.state = .waiting) : serveTruckInPosition h.id s = (headInPosition s, ⟨.ok, []⟩) := by
  rw [serveTruckInPosition, if_neg (by simp [truckIdOk_of low high]), if_neg (by simp [hasTruck_head head]),
    head_of_trucks head]
  exact if_pos ⟨rfl, waits⟩

theorem serveTruckAway_accepted (low : 1 ≤ h.id) (high : h.id ≤ 65535) (head : s.tqs.trucks = h :: rest) :
    serveTruckAway h.id s = (removeHead s, ⟨.ok, fTruck h⟩) := by
  rw [serveTruckAway, if_neg (by simp [truckIdOk_of low high]), if_neg (by simp [hasTruck_head head]),
    head_of_trucks head]
  exact if_pos rfl

/-! ### The effect of an accepted request on the rest of the state -/

theorem headInPosition_rest (s : State) :
    headInPosition s = { s with tqs := (headInPosition s).tqs, clp := (headInPosition s).clp } := by
  apply State.eq_of_fields <;> simp

theorem removeHead_rest (s : State) : removeHead s = { s with tqs := (removeHead s).tqs, clp := (removeHead s).clp } := by
  apply State.eq_of_fields <;> simp

theorem startConveyor_rest (s : State) :
    startConveyor s = { s with tqs := (startConveyor s).tqs, clp := (startConveyor s).clp } := by
  apply State.eq_of_fields <;> simp

end

/-- Settles O41: each request is its owner's act on the head or the queue, answered on a free link. -/
theorem truckRequests : Obligations.TruckRequests := by
  refine ⟨fun s tag id target h rest free low high => ⟨fun enough limit new room => ?_, fun head other behind => ?_⟩,
    fun s tag h rest free head low high => ⟨fun waits stands => ?_, fun waits waiting => ?_, ?_⟩⟩
  · exact exec_answered (q := ⟨tag, .truckAdd id target⟩) rfl free
      (serveTruckAdd_accepted low high enough limit new room)
  · exact exec_answered (q := ⟨tag, .truckRemove id⟩) rfl free (serveTruckRemove_accepted low high head other behind)
  · rw [← headInPosition_stands head stands]
    exact exec_answered (q := ⟨tag, .truckInPosition h.id⟩) rfl free (serveTruckInPosition_accepted low high head waits)
  · exact ⟨headInPosition s,
      exec_answered (q := ⟨tag, .truckInPosition h.id⟩) rfl free (serveTruckInPosition_accepted low high head waits),
      headInPosition_runs_tqs head waiting, reportsMade_headInPosition (by decide) (by decide) s, headInPosition_rest s⟩
  · refine ⟨removeHead s, ?_, fun stands => ?_, fun on busy => ?_, reportsMade_removeHead (by decide) (by decide) s,
      removeHead_rest s⟩
    · have answered := exec_answered (i := .truckAway tag h.id) (q := ⟨tag, .truckAway h.id⟩) rfl free
        (serveTruckAway_accepted low high head)
      rwa [fTruck] at answered
    · rw [removeHead_stands stands, headGone, head, List.tail_cons]
    · have waits := removeHead_waits_tqs on busy
      rwa [head] at waits

/-! ### CONVEYOR_START and CONVEYOR_STOP (R167, R171) -/

section
variable {s : State} {h : Truck} {rest : List Truck}

theorem startConveyor_runs (ready : s.headReady = true) : startConveyor s = formPermit (enterRunning s) := by
  rw [startConveyor, if_pos ready]

theorem startConveyor_waits (stands : s.headReady = false) : startConveyor s = formPermit (enterConveyor .waiting 0 s) := by
  rw [startConveyor, if_neg (Bool.eq_false_iff.1 stands)]

theorem reportsMade_startConveyor {m : BitVec 9} (hs : ReportKind.state.bit &&& m = ReportKind.state.bit)
    (hp : ReportKind.permit.bit &&& m = ReportKind.permit.bit) (s : State) : reportsMade m s (startConveyor s) := by
  unfold startConveyor
  refine reportsMade.trans ?_ (reportsMade_formPermit hp _)
  split
  · exact reportsMade_enterRunning hs s
  · exact reportsMade_enterConveyor .waiting 0 hs s

theorem serveConveyorStart_accepted (released : s.eStop = false) (lb : s.geo.lb ≠ none) (cb : s.geo.cb ≠ none)
    (bppm : s.geo.bppm ≠ none) (w : s.geo.w ≠ none) (stopped : s.tqs.conveyor = .stopped) :
    serveConveyorStart s = (startConveyor s, ⟨.ok, f8 (startConveyor s).tqs.conveyor.code⟩) := by
  have commissioned : s.canConvey = true := by
    simp only [State.canConvey, Option.isSome_iff_ne_none.2 lb, Option.isSome_iff_ne_none.2 cb,
      Option.isSome_iff_ne_none.2 bppm, Option.isSome_iff_ne_none.2 w, Bool.and_self]
  rw [serveConveyorStart, if_neg (by simp [released]), if_neg (by simp [commissioned]), if_neg (not_not.2 stopped)]
  rfl

end

/-- Settles O42: a start runs the conveyor with a head that takes material and waits for one otherwise; a stop leaves it
STOPPED with command 0. -/
theorem conveyorRequests : Obligations.ConveyorRequests := by
  refine fun s tag free => ⟨fun released lb cb bppm w stopped => ?_, fun stopped => ?_, fun on => ?_⟩
  · refine ⟨startConveyor s,
      exec_answered (q := ⟨tag, .conveyorStart⟩) rfl free (serveConveyorStart_accepted released lb cb bppm w stopped),
      fun stands => ?_, fun h rest head takes => ?_, reportsMade_startConveyor (by decide) (by decide) s,
      startConveyor_rest s⟩
    · rw [startConveyor_waits stands]
      exact (formPermit_tqs_of rfl).trans (by rw [enterConveyor_tqs])
    · have ready : s.headReady = true := by
        rw [State.headReady, head_of_trucks head]
        exact (takes_iff h).2 takes
      rw [startConveyor_runs ready]
      exact formPermit_enterRunning_tqs head
  · exact exec_answered (q := ⟨tag, .conveyorStop⟩) rfl free (if_pos stopped)
  · refine ⟨formPermit (stopConveyor s), exec_answered (q := ⟨tag, .conveyorStop⟩) rfl free (if_neg on),
      (formPermit_tqs_of rfl).trans (by rw [stopConveyor_tqs]),
      (reportsMade_stopConveyor (by decide) s).trans (reportsMade_formPermit (by decide) _), ?_⟩
    apply State.eq_of_fields <;> simp

end Sys2Proof.Machine
end

section
/-! The power-on event (R178, R201). -/

namespace Sys2Proof.Machine

/-- The base state with its STATE report (R201). -/
def basedReported (eStop : Bool) (freeUsed : Nat) (pending : List Instr) : State :=
  { State.base eStop freeUsed pending with clp := { Clp.initial with waiting := 0b000000001 } }

theorem queueReport_base (eStop : Bool) (freeUsed : Nat) (pending : List Instr) :
    queueReport .state (State.base eStop freeUsed pending) = basedReported eStop freeUsed pending := by
  have state : Clp.initial.waiting ||| (ReportKind.state.bit &&& Clp.initial.enabled) = 0b000000001 := by decide
  rw [queueReport_eq, basedReported, ← state]
  rfl

/-- On a released line PERMIT is reported too, for the permit goes from STOP to SLOW (R175, R201). -/
theorem powerOn_released (freeUsed : Nat) (pending : List Instr) :
    formPermit (basedReported false freeUsed pending) = { State.reset with freeUsed := freeUsed, pending := pending } := by
  have permit : (0b000000001 : BitVec 9) ||| (ReportKind.permit.bit &&& Clp.initial.enabled) = 0b000010001 := by decide
  apply State.eq_of_fields
  case h16 =>
    rw [formPermit_clp]
    exact congrArg (fun w => { Clp.initial with waiting := w }) permit
  case h14 => exact formPermit_tqs _
  all_goals (simp; rfl)

/-- Under E-stop the permit stays STOP (R174, R201). -/
theorem powerOn_asserted (freeUsed : Nat) (pending : List Instr) :
    formPermit (basedReported true freeUsed pending) = { basedReported true freeUsed pending with
      tqs := { State.reset.tqs with permit := .stop, reasons := ⟨true, false, false, false⟩ } } := rfl

/-- Settles O3: the event leaves the reset values, and the permit is formed and reported from them at the line's level. -/
theorem powerOnEvent : Obligations.PowerOnEvent := by
  intro s
  change Host.Outcome.next (formPermit (queueReport .state (State.base s.eStop s.freeUsed s.pending))) = _
  rw [queueReport_base]
  cases s.eStop with
  | false => exact congrArg Host.Outcome.next (powerOn_released s.freeUsed s.pending)
  | true => exact congrArg Host.Outcome.next (powerOn_asserted s.freeUsed s.pending)

end Sys2Proof.Machine
end

section
/-! Machine parameters: the parameter table (R179, section 10.1), the refusals of SET_PARAM in the order of its checks (R180, R183),
and GET_PARAM, LOCK_ENVELOPE, SET_CAL_OPEN and ZERO_SENSOR (R183 to R185, R187). -/

namespace Sys2Proof.Machine

/-! ### The two gates of check 5 (R180) -/

theorem envelopeGate_iff (s : State) : s.envelopeGate = true ↔ ∀ x, (s.ch x).state ≠ .auto ∧ (s.ch x).state ≠ .jog := by
  have sides : s.envelopeGate = true ↔
      (s.chL.state ≠ .auto ∧ s.chL.state ≠ .jog) ∧ s.chR.state ≠ .auto ∧ s.chR.state ≠ .jog := by
    simp [State.envelopeGate, and_assoc]
  rw [sides]
  refine ⟨fun ⟨left, right⟩ x => ?_, fun still => ⟨still .L, still .R⟩⟩
  cases x with
  | L => exact left
  | R => exact right

theorem envelopeGate_eq_false {s : State} (x : Side) (moving : (s.ch x).state = .auto ∨ (s.ch x).state = .jog) :
    s.envelopeGate = false := by
  rw [Bool.eq_false_iff, ne_eq, envelopeGate_iff]
  intro still
  obtain ⟨not_auto, not_jog⟩ := still x
  exact moving.elim not_auto not_jog

theorem calibrationGate_iff (s : State) : s.calibrationGate = true ↔
    (s.chL.state = .off ∧ s.chR.state = .off) ∨ s.mpr.calOpen = true := by
  simp [State.calibrationGate]

theorem calibrationGate_eq_false {s : State} (x : Side) (on : (s.ch x).state ≠ .off) (closed : s.mpr.calOpen = false) :
    s.calibrationGate = false := by
  rw [Bool.eq_false_iff, ne_eq, calibrationGate_iff, closed]
  rintro (⟨offL, offR⟩ | opened)
  · cases x with
    | L => exact on offL
    | R => exact on offR
  · exact absurd opened Bool.false_ne_true

/-! ### The table (R179, section 10.1) -/

/-- The table gives the item a class and a range. -/
def ItemHas (id : Nat) (cls : ItemClass) (range : Int → Prop) : Prop :=
  ∃ row, findParam id = some row ∧ row.cls = cls ∧ ∀ v, row.ok v = true ↔ range v

/-- A line of section 10.1: items of one class whose values lie between two limits. -/
def LineHolds : List Nat × ItemClass × Int × Int → Prop
  | (ids, cls, lo, hi) => ∀ id ∈ ids, ItemHas id cls (fun v => lo ≤ v ∧ v ≤ hi)

theorem within_iff (lo hi v : Int) : within lo hi v = true ↔ lo ≤ v ∧ v ≤ hi := by
  simp only [within, Bool.and_eq_true, decide_eq_true_eq]

theorem zeroOr_iff (lo hi v : Int) : zeroOr lo hi v = true ↔ v = 0 ∨ lo ≤ v ∧ v ≤ hi := by
  simp only [zeroOr, Bool.or_eq_true, decide_eq_true_eq, within_iff]

/-- A ski cell value is a first and a last cell, each with a byte of its own (section 11.8). -/
theorem cellRangeOk_iff (v : Int) : cellRangeOk v = true ↔
    ∃ first last : Nat, v = ((first * 256 + last : Nat) : Int) ∧ first ≤ last ∧ last ≤ 15 ∧ last < first + 8 := by
  simp only [cellRangeOk, Bool.and_eq_true, decide_eq_true_eq]
  simp only [cellRangeOf]
  constructor
  · rintro ⟨⟨⟨nonneg, order⟩, cells⟩, width⟩
    exact ⟨v.toNat / 256, v.toNat % 256, by omega, order, cells, width⟩
  · rintro ⟨first, last, rfl, order, cells, width⟩
    omega

/-! ### SET_PARAM, refused (R180, R183) -/

section
variable {s : State} {item : Nat} {v : Int} {row : ParamRow}

theorem serveSetParam_unnamed (unnamed : findParam item = none) : serveSetParam item v s = refuse .range s := by
  rw [serveSetParam, unnamed]

theorem serveSetParam_alreadySet (found : findParam item = some row) (geometry : row.cls = .geometry)
    (set : row.get s.mpr.params ≠ none) : serveSetParam item v s = refuse .alreadySet s := by
  rw [serveSetParam, found]
  exact if_pos ⟨geometry, Option.isSome_iff_ne_none.2 set⟩

theorem serveSetParam_locked (found : findParam item = some row) (envelope : row.cls = .envelope) (locked : s.mpr.lock = true) :
    serveSetParam item v s = refuse .locked (setFlag .lockedWrite s) := by
  have not_geometry : ¬(row.cls = .geometry ∧ (row.get s.mpr.params).isSome = true) := by simp [envelope]
  rw [serveSetParam, found]
  exact (if_neg not_geometry).trans (if_pos ⟨envelope, locked⟩)

/-- Past the checks of the item's class the range and then the gate decide. -/
theorem serveSetParam_writable (found : findParam item = some row)
    (unset : row.cls = .geometry → row.get s.mpr.params = none) (unlocked : row.cls = .envelope → s.mpr.lock = false) :
    serveSetParam item v s = if !row.ok v then refuse .range s
      else if !s.writeGate row.cls then refuse .state s
      else accept (f8 item ++ bytesBE 4 v) (writeItem row v s) := by
  have not_set : ¬(row.cls = .geometry ∧ (row.get s.mpr.params).isSome = true) :=
    fun ⟨cls, set⟩ => by simp [unset cls] at set
  have not_locked : ¬(row.cls = .envelope ∧ s.mpr.lock = true) := fun ⟨cls, locked⟩ => by simp [unlocked cls] at locked
  rw [serveSetParam, found]
  exact (if_neg not_set).trans (if_neg not_locked)

theorem serveSetParam_outOfRange (found : findParam item = some row)
    (unset : row.cls = .geometry → row.get s.mpr.params = none) (unlocked : row.cls = .envelope → s.mpr.lock = false)
    (out : row.ok v = false) : serveSetParam item v s = refuse .range s := by
  rw [serveSetParam_writable found unset unlocked, out]
  rfl

theorem serveSetParam_shut (found : findParam item = some row)
    (unset : row.cls = .geometry → row.get s.mpr.params = none) (unlocked : row.cls = .envelope → s.mpr.lock = false)
    (ok : row.ok v = true) (shut : s.writeGate row.cls = false) : serveSetParam item v s = refuse .state s := by
  rw [serveSetParam_writable found unset unlocked, ok, shut]
  rfl

end

/-- Settles O43: the table is read line by line, and each refusal is the check of `serveSetParam` that meets it. -/
theorem parameterTable : Obligations.ParameterTable := by
  refine ⟨fun p => rfl, fun ids cls lo hi line => (?_ : ∀ l ∈ _, LineHolds l) (ids, cls, lo, hi) line, ?_, ?_,
    ⟨_, rfl, rfl, fun _ => List.contains_iff_mem⟩, ⟨_, rfl, rfl, zeroOr_iff 200 5000⟩,
    ⟨_, rfl, rfl, zeroOr_iff 100 5000⟩,
    fun s tag item v free => ?_⟩
  · simp only [List.forall_mem_cons, LineHolds, List.not_mem_nil, false_imp_iff, implies_true, and_true]
    and_intros
    all_goals exact ⟨_, rfl, rfl, within_iff _ _⟩
  · simp only [List.forall_mem_cons, List.not_mem_nil, false_imp_iff, implies_true, and_true]
    exact ⟨⟨_, rfl, rfl, fun _ => List.contains_iff_mem⟩, ⟨_, rfl, rfl, fun _ => List.contains_iff_mem⟩⟩
  · simp only [List.forall_mem_cons, List.not_mem_nil, false_imp_iff, implies_true, and_true]
    exact ⟨⟨_, rfl, rfl, cellRangeOk_iff⟩, ⟨_, rfl, rfl, cellRangeOk_iff⟩⟩
  · have refused {code : ResultCode} {t : State} (h : serveSetParam item v s = refuse code t) :
        exec (.setParam tag item v) s = .next (withReply ⟨0xC8, tag, [code.code]⟩ t) :=
      exec_answered (q := ⟨tag, .setParam item v⟩) rfl free h
    refine ⟨fun unnamed => refused (serveSetParam_unnamed unnamed), fun row found =>
      ⟨fun cls set => refused (serveSetParam_alreadySet found cls set), fun cls locked flagged => ?_,
        fun cls locked _ disarmed => ?_, fun unset unlocked =>
      ⟨fun out => refused (serveSetParam_outOfRange found unset unlocked out), fun ok cls ⟨x, moving⟩ => ?_,
        fun ok cls ⟨x, on⟩ closed => ?_⟩⟩⟩
    · exact refused ((serveSetParam_locked found cls locked).trans (congrArg (refuse .locked) (setFlag_of_set flagged)))
    · exact refused ((serveSetParam_locked found cls locked).trans
        (congrArg (refuse .locked) (setFlag_disarmed .lockedWrite s disarmed)))
    · exact refused (serveSetParam_shut found unset unlocked ok (cls ▸ envelopeGate_eq_false x moving))
    · exact refused (serveSetParam_shut found unset unlocked ok (cls ▸ calibrationGate_eq_false x on closed))

/-! ### The other requests, accepted (R183 to R185, R187) -/

theorem serveGetParam_named {item : Nat} {row : ParamRow} (found : findParam item = some row) (s : State) :
    serveGetParam item s = accept (f8 item ++ [Config.classCode row.cls.place] ++
      fOpt 4 (bytesBE 4) (row.get s.mpr.params) ++ fBool s.mpr.lock ++ fBool s.mpr.calOpen) s := by
  rw [serveGetParam, found]

theorem serveSetCalOpen_unlocked {s : State} (b : Bool) (unlocked : s.mpr.lock = false) :
    serveSetCalOpen (if b then 1 else 0) s = accept [] { s with mpr := { s.mpr with calOpen := b } } := by
  cases b <;> exact if_neg (Bool.eq_false_iff.1 unlocked)

/-- The new zero makes the sample read the known value (R185). -/
theorem serveZeroSensor_accepted {s : State} {sensor : Nat} {x : Sensor} {known : Int} (named : sensorOf sensor = some x)
    (ok : x.knownOk known = true) (gate : s.calibrationGate = true) (valid : rawValid (s.rawOf x) = true) :
    serveZeroSensor sensor known s = accept (bytesBE 3 (known - rawScaled (s.rawOf x) (s.calOf x).span))
      { s with mpr := { s.mpr with params := { s.mpr.params with
        cal := s.cal.setZero x (known - rawScaled (s.rawOf x) (s.calOf x).span) } } } := by
  rw [serveZeroSensor, named]
  dsimp only
  rw [ok, gate, valid]
  rfl

/-- Settles O45: each request passes its owner's checks, and the answer is the reply. -/
theorem paramRequests : Obligations.ParamRequests := by
  intro s tag item sensor known row x b free
  refine ⟨fun found => ?_, exec_answered (q := ⟨tag, .lockEnvelope⟩) rfl free rfl, fun unlocked =>
    exec_answered (q := ⟨tag, .setCalOpen _⟩) rfl free (serveSetCalOpen_unlocked b unlocked),
    fun named ok gate low high => ⟨_, rfl, ?_⟩⟩
  · have served := exec_answered (i := .getParam tag item) (q := ⟨tag, .getParam item⟩) rfl free (serveGetParam_named found s)
    cases value : row.get s.mpr.params
    all_goals
      rw [value] at served
      exact served
  · have valid : rawValid (s.rawOf x) = true := by simp [rawValid, low, high]
    exact exec_answered (q := ⟨tag, .zeroSensor sensor known⟩) rfl free
      (serveZeroSensor_accepted named ok ((calibrationGate_iff s).2 gate) valid)

end Sys2Proof.Machine
end

section
/-! SET_REPORTING (R195): the set it accepts, and the one it refuses. -/

namespace Sys2Proof.Machine

theorem serveSetReporting_named {kinds : BitVec 16} (named : kinds.toNat < 512) (s : State) :
    serveSetReporting kinds s = accept (f16 kinds.toNat) (setReporting (kinds.setWidth 9) s) :=
  if_neg (not_le.2 named)

theorem serveSetReporting_unnamed {kinds : BitVec 16} (unnamed : ¬kinds.toNat < 512) (s : State) :
    serveSetReporting kinds s = refuse .range s :=
  if_pos (not_lt.1 unnamed)

/-- Settles O47: a set within the nine kinds is accepted and read back, any other is refused. -/
theorem Settled.setReporting : Obligations.SetReporting := by
  intro s tag kinds free
  split
  next named => exact exec_answered (q := ⟨tag, .setReporting kinds⟩) rfl free (serveSetReporting_named named s)
  next unnamed => exact exec_answered (q := ⟨tag, .setReporting kinds⟩) rfl free (serveSetReporting_unnamed unnamed s)

end Sys2Proof.Machine
end

section
/-! The order of buffer, slot and transmitter (R191 to R193): what the transmitter and CLP make of it, and that every step keeps
it. -/

namespace Sys2Proof.Machine

/-! ### What the order is read from -/

/-- The order is read from the buffer, the slot and the frame being sent alone. -/
theorem linkOrdered_of_kept {s t : State} (buffer : t.clp.buffer = s.clp.buffer) (slot : t.clp.slot = s.clp.slot)
    (tx : t.clp.tx = s.clp.tx) (h : s.linkOrdered) : t.linkOrdered := by
  unfold State.linkOrdered
  rwa [buffer, slot, tx]

/-- A link on which no reply and no request waits is in order. -/
theorem linkOrdered_of_free {s : State} (free : s.linkFree) : s.linkOrdered := by
  obtain ⟨slot, buffer⟩ := free
  simp [State.linkOrdered, slot, buffer]

section
variable {s : State}

/-- An IDLE transmitter leaves nothing waiting in an ordered link. -/
theorem linkFree_of_idle (h : s.linkOrdered) (tx : s.clp.tx = none) : s.linkFree := by
  obtain ⟨-, behind_reply, behind_frame⟩ := h
  have slot : s.clp.slot = none := by_contra fun full => behind_frame full tx
  exact ⟨slot, by_contra fun waits => behind_reply waits slot⟩

/-! ### The transmitter and the taking of requests (R192, R193) -/

/-- The transmitter sends a report with nothing waiting, or leaves the slot as it is (R193). -/
theorem startTx_linkOrdered (h : s.linkOrdered) : (startTx s).linkOrdered := by
  cases tx : s.clp.tx with
  | some f => rwa [startTx_busy tx]
  | none =>
    obtain ⟨slot, buffer⟩ := linkFree_of_idle h tx
    refine linkOrdered_of_free ⟨?_, by simp [buffer]⟩
    cases next : nextReport s.clp.waiting with
    | some k => rw [startTx_report tx slot next]; exact slot
    | none => simp [startTx, tx, slot, next]

theorem takeNext_length (s : State) : (takeNext s).clp.buffer.length ≤ s.clp.buffer.length := by
  unfold takeNext
  split
  next q rest _ waits =>
    obtain ⟨-, -, -, -, -, -, buffer, -⟩ := serve_frame q.req { s with clp := { s.clp with buffer := rest } }
    simp [takeRequest, buffer, waits]
  next => exact le_rfl

/-- CLP brings up to two requests into order: a request is left only behind a reply, and a transmitter that is IDLE has sent what
waited (R192, R193). -/
theorem pump_linkOrdered (length : s.clp.buffer.length ≤ 2) : (pump s).linkOrdered := by
  refine ⟨?_, fun waits empty => waits (takeNext_empty empty), fun full idle => ?_⟩
  · exact (takeNext_length _).trans (by simpa using (takeNext_length s).trans length)
  · obtain ⟨same, slot, -⟩ := pump_idle idle
    exact full (same ▸ slot)

theorem offerRequest_linkOrdered (tag : Byte) (r : Request) (length : s.clp.buffer.length ≤ 2) :
    (offerRequest tag r s).linkOrdered := by
  unfold offerRequest
  split
  next room => exact pump_linkOrdered (by simpa using room)
  next => exact pump_linkOrdered length

/-! ### The bytes received (R190, R191) -/

theorem applyLinkEvent_linkOrdered (e : RxEvent) (h : s.linkOrdered) : (applyLinkEvent e s).linkOrdered := by
  cases e with
  | nothing => exact h
  | lengthError => exact h
  | crcError => exact h
  | frame f =>
    unfold applyLinkEvent takeLinkFrame
    dsimp only
    split
    · exact h
    · exact offerRequest_linkOrdered _ _ (by simpa using h.1)

theorem linkByte_linkOrdered (b : Byte) (h : s.linkOrdered) : (linkByte s b).linkOrdered :=
  applyLinkEvent_linkOrdered _ (linkOrdered_of_kept rfl rfl rfl h)

theorem linkBytes_linkOrdered (bytes : List Byte) (h : s.linkOrdered) : (bytes.foldl linkByte s).linkOrdered := by
  induction bytes generalizing s with
  | nil => exact h
  | cons b rest ih => exact ih (linkByte_linkOrdered b h)

/-! ### Every command and every step -/

/-- The end of a frame leaves up to two requests to be pumped; the other events reach the buffer and the slot by the bytes
received or not at all. -/
theorem exec_event_linkOrdered (i : Instr) (hq : queuedOf i = none) (h : s.linkOrdered) :
    ∃ t, exec i s = .next t ∧ t.linkOrdered := by
  have framed {u : State} (buffer : u.clp.buffer = s.clp.buffer) (slot : u.clp.slot = s.clp.slot)
      (tx : u.clp.tx = s.clp.tx) : (startTx u).linkOrdered := startTx_linkOrdered (linkOrdered_of_kept buffer slot tx h)
  cases i <;> cases hq
  case powerOnReset => exact ⟨_, rfl, linkOrdered_of_free ⟨by simp [powerOn]; rfl, by simp [powerOn]; rfl⟩⟩
  case validFrame bytes => exact ⟨_, rfl, startTx_linkOrdered (linkBytes_linkOrdered bytes h)⟩
  case frameStart => exact ⟨_, rfl, startTx_linkOrdered (linkByte_linkOrdered startByte h)⟩
  case frameLengthError b => exact ⟨_, rfl, startTx_linkOrdered (linkByte_linkOrdered b h)⟩
  case transmitEnd => exact ⟨_, rfl, pump_linkOrdered h.1⟩
  case gapDiscard =>
    refine ⟨_, rfl, framed ?_ ?_ ?_⟩ <;> unfold linkGap <;> split <;> rfl
  all_goals exact ⟨_, rfl, framed (by simp) (by simp) (by simp)⟩

theorem exec_linkOrdered {i : Instr} {t : State} (h : s.linkOrdered) (e : exec i s = .next t) : t.linkOrdered := by
  obtain ⟨u, hu, ordered⟩ : ∃ u, exec i s = .next u ∧ u.linkOrdered := by
    cases hq : queuedOf i with
    | none => exact exec_event_linkOrdered i hq h
    | some q => exact ⟨_, exec_request hq s, offerRequest_linkOrdered q.tag q.req h.1⟩
  cases hu.symm.trans e
  exact ordered

theorem step_linkOrdered {t : State} (h : s.linkOrdered) (e : step s = .next t) : t.linkOrdered := by
  obtain ⟨i, rest, -, e⟩ | ⟨-, i, -, e⟩ | ⟨-, -, rfl⟩ := step_cases e
  · exact exec_linkOrdered (s := { s with pending := rest }) h e
  · exact exec_linkOrdered h e
  · exact h

end

/-- Settles O55: every command keeps the order, in which an IDLE transmitter leaves no reply and no request waiting; and its choice
ended the command, with no report to choose. -/
theorem linkOrderKept : Obligations.LinkOrderKept := by
  refine ⟨fun _ _ => step_linkOrdered, fun c s t h running e idle => ?_⟩
  have free : t.linkFree := linkFree_of_idle (exec_linkOrdered h e) idle
  obtain ⟨u, hu⟩ := exec_startTx running s
  cases hu.symm.trans e
  obtain ⟨-, -, waiting, same⟩ := startTx_idle idle
  exact ⟨free.1, free.2, by rwa [same]⟩

end Sys2Proof.Machine
end

section
/-! Fields and requests on the wire (R202, section 11.8): integers and segments read back from their bytes, and every request from
its kind and payload. -/

namespace Sys2Proof

/-! ### Integers (R202) -/

@[simp] theorem bytesBE_length (n : Nat) (v : Int) : (bytesBE n v).length = n := by
  induction n with
  | zero => rfl
  | succ n ih => rw [bytesBE, List.length_cons, ih]

/-- The value read before a run of bytes counts 256 times for each of them. -/
theorem foldl_natBE (acc : Nat) (bs : List Byte) :
    bs.foldl (fun acc b => acc * 256 + b.toNat) acc = acc * 256 ^ bs.length + natBE bs := by
  induction bs generalizing acc with
  | nil => simp [natBE]
  | cons b bs ih =>
    rw [natBE, List.foldl_cons, List.foldl_cons, ih, ih (0 * 256 + b.toNat), List.length_cons]
    ring

theorem natBE_cons (b : Byte) (bs : List Byte) : natBE (b :: bs) = b.toNat * 256 ^ bs.length + natBE bs := by
  rw [natBE, List.foldl_cons, foldl_natBE, zero_mul, zero_add]

/-- A digit to base 256 with the digits below it. -/
theorem digit_add_below (v : Int) {N : Int} (pos : 0 ≤ N) : v / N % 256 * N + v % N = v % (N * 256) := by
  rw [Int.emod_def (v / N), Int.emod_def v N, Int.emod_def v, Int.ediv_ediv_of_nonneg pos]
  ring

/-- The bytes of an integer hold its residue. -/
theorem natBE_bytesBE (n : Nat) (v : Int) : (natBE (bytesBE n v) : Int) = v % (256 ^ n : Nat) := by
  induction n with
  | zero => simp [bytesBE, natBE]
  | succ n ih =>
    have top : ((BitVec.ofInt 8 (v / (256 ^ n : Nat))).toNat : Int) = v / (256 ^ n : Nat) % 256 := by
      rw [BitVec.toNat_ofInt]
      exact Int.toNat_of_nonneg (Int.emod_nonneg _ (by decide))
    rw [bytesBE, natBE_cons, bytesBE_length, Nat.cast_add, Nat.cast_mul, top, ih, pow_succ, Nat.cast_mul]
    exact digit_add_below v (Int.natCast_nonneg _)

/-- An unsigned integer that fits its bytes is read back. -/
theorem natBE_bytesBE_of_lt {n : Nat} {v : Int} (low : 0 ≤ v) (high : v < (256 ^ n : Nat)) :
    (natBE (bytesBE n v) : Int) = v := by
  rw [natBE_bytesBE, Int.emod_eq_of_lt low high]

/-- A signed integer that fits its bytes is read back from its two's complement. -/
theorem signedBE_bytesBE {n : Nat} {v : Int} (low : -(256 ^ n : Nat) ≤ 2 * v) (high : 2 * v < (256 ^ n : Nat)) :
    signedBE (bytesBE n v) = v := by
  have residue := natBE_bytesBE n v
  have shape : signedBE (bytesBE n v) = if natBE (bytesBE n v) * 2 < 256 ^ n then (natBE (bytesBE n v) : Int)
      else (natBE (bytesBE n v) : Int) - (256 ^ n : Nat) := by rw [signedBE, bytesBE_length]
  rw [shape]
  generalize 256 ^ n = N at *
  rcases le_or_gt 0 v with pos | neg
  · rw [Int.emod_eq_of_lt pos (by omega)] at residue
    split <;> omega
  · rw [← Int.add_emod_right, Int.emod_eq_of_lt (by omega) (by omega)] at residue
    split <;> omega

theorem byte_read {x : Nat} (fits : fitsByte x = true) : natBE (bytesBE 1 x) = x :=
  Int.ofNat_inj.1 (natBE_bytesBE_of_lt (by omega) (by have := of_decide_eq_true fits; omega))

theorem word_read {x : Nat} (fits : fitsWord x = true) : natBE (bytesBE 2 x) = x :=
  Int.ofNat_inj.1 (natBE_bytesBE_of_lt (by omega) (by have := of_decide_eq_true fits; omega))

theorem signed16_read {x : Int} (fits : fitsSigned16 x = true) : signedBE (bytesBE 2 x) = x := by
  simp only [fitsSigned16, Bool.and_eq_true, decide_eq_true_eq] at fits
  exact signedBE_bytesBE (by omega) (by omega)

theorem signed32_read {x : Int} (fits : fitsSigned32 x = true) : signedBE (bytesBE 4 x) = x := by
  simp only [fitsSigned32, Bool.and_eq_true, decide_eq_true_eq] at fits
  exact signedBE_bytesBE (by omega) (by omega)

theorem set_read (m : BitVec 16) : BitVec.ofNat 16 (natBE (bytesBE 2 m.toNat)) = m := by
  rw [word_read (by simpa [fitsWord] using m.isLt), BitVec.ofNat_toNat, BitVec.setWidth_eq]

/-! ### Fields in a payload -/

theorem fieldAt_whole {n : Nat} {a : List Byte} (h : a.length = n) : fieldAt 0 n a = a := by
  rw [fieldAt, List.drop_zero, List.take_of_length_le h.le]

theorem fieldAt_left {i n : Nat} {a : List Byte} (h : i + n ≤ a.length) (b : List Byte) :
    fieldAt i n (a ++ b) = fieldAt i n a := by
  rw [fieldAt, fieldAt, List.drop_append_of_le_length (by omega), List.take_append_of_le_length (by simp; omega)]

theorem fieldAt_right {i n : Nat} {a : List Byte} (h : a.length ≤ i) (b : List Byte) :
    fieldAt i n (a ++ b) = fieldAt (i - a.length) n b := by
  rw [fieldAt, fieldAt, List.drop_append, List.drop_eq_nil_of_le h, List.nil_append]

namespace Machine

/-! ### Segments (section 11.8) -/

theorem segment_length (g : Segment) : (Segment.bytes g).length = 17 := by simp [Segment.bytes]

theorem segments_length (gs : List Segment) : (gs.flatMap Segment.bytes).length = 17 * gs.length := by
  simp [List.length_flatMap, segment_length, mul_comm]

/-- CUT, LOAD and DETECT stand in bits 0 to 2 of a record's last byte. -/
theorem attrByte_bits (g : Segment) : (Segment.attrByte g).getLsbD 0 = g.cut ∧ (Segment.attrByte g).getLsbD 1 = g.load ∧
    (Segment.attrByte g).getLsbD 2 = g.detect := by
  rw [Segment.attrByte]
  generalize g.cut = cut, g.load = load, g.detect = detect
  revert cut load detect
  decide

/-- A segment is read back from its record. -/
theorem segmentAt_record {g : Segment} {bs : List Byte} {i : Nat} (fits : g.fits = true)
    (record : fieldAt (17 * i) 17 bs = Segment.bytes g) : segmentAt bs i = g := by
  simp only [Segment.fits, Bool.and_eq_true, decide_eq_true_eq] at fits
  obtain ⟨⟨⟨⟨⟨⟨start, length_low⟩, length_high⟩, l0⟩, l1⟩, r0⟩, r1⟩ := fits
  obtain ⟨cut, load, detect⟩ := attrByte_bits g
  have attrs : (Segment.bytes g).getD 16 0 = Segment.attrByte g := by simp [Segment.bytes]
  have length : (natBE (bytesBE 4 g.length) : Int) = g.length := natBE_bytesBE_of_lt length_low length_high
  simp only [segmentAt, record, attrs, cut, load, detect]
  simp [Segment.bytes, fieldAt_whole, fieldAt_left, fieldAt_right, signed16_read, signed32_read, start, length, l0, l1, r0,
    r1]

/-- The records of a list of segments stand one after the other. -/
theorem fieldAt_records (gs : List Segment) {i : Nat} (h : i < gs.length) :
    fieldAt (17 * i) 17 (gs.flatMap Segment.bytes) = Segment.bytes gs[i] := by
  induction gs generalizing i with
  | nil => exact absurd h (Nat.not_lt_zero i)
  | cons g gs ih =>
    rw [List.flatMap_cons]
    cases i with
    | zero =>
      rw [fieldAt_left (by simp [segment_length])]
      exact fieldAt_whole (segment_length g)
    | succ i =>
      rw [fieldAt_right (by rw [segment_length]; omega), segment_length, show 17 * (i + 1) - 17 = 17 * i by omega]
      exact ih (Nat.lt_of_succ_lt_succ h)

/-- Segments are read back from their records. -/
theorem segments_read {gs : List Segment} (fits : gs.all Segment.fits = true) :
    (List.range gs.length).map (segmentAt (gs.flatMap Segment.bytes)) = gs := by
  refine List.ext_getElem (by simp) fun i _ h => ?_
  rw [List.getElem_map, List.getElem_range]
  exact segmentAt_record (List.all_eq_true.1 fits _ (List.getElem_mem h)) (fieldAt_records gs h)

/-! ### Requests (R192, section 11.8) -/

theorem withLength_of_length {n : Nat} {p : List Byte} (h : p.length = n) (kind : Byte) (r : Request) :
    withLength n kind p r = r := if_pos h

theorem parse_stageSegments {gs : List Segment} (short : gs.length ≤ 8) (fits : gs.all Segment.fits = true) :
    Request.parse 0x10 (gs.flatMap Segment.bytes) = .stageSegments gs := by
  have length := segments_length gs
  refine (if_pos ⟨by omega, by omega⟩).trans (congrArg Request.stageSegments ?_)
  rw [length, Nat.mul_div_cancel_left _ (by decide), segments_read fits]

theorem parse_unknown {k : Byte} (unnamed : namesNoRequest k = true) : Request.parse k [] = .unknown k := by
  revert k
  decide

/-- A request whose fields fit their widths is read back from its kind and payload. -/
theorem parse_payload {r : Request} (fits : r.fits = true) : Request.parse r.kind r.payload = r := by
  cases r
  case unknown k => exact parse_unknown fits
  case badLength => cases fits
  case stageSegments gs =>
    obtain ⟨short, each⟩ := Bool.and_eq_true_iff.1 fits
    exact parse_stageSegments (of_decide_eq_true short) each
  all_goals
    refine (withLength_of_length ?_ _ _).trans ?_
    · simp [Request.payload]
    · simp only [Request.fits, Bool.and_eq_true] at fits
      simp [Request.payload, fieldAt_whole, fieldAt_left, fieldAt_right, byte_read, word_read, signed16_read, signed32_read,
        set_read, fits]

/-- The payload of a request whose fields fit fits a frame (R189). -/
theorem payload_length_le {r : Request} (fits : r.fits = true) : r.payload.length ≤ 248 := by
  cases r
  case stageSegments gs =>
    obtain ⟨short, -⟩ := Bool.and_eq_true_iff.1 fits
    have := segments_length gs
    have := of_decide_eq_true short
    simp only [Request.payload]
    omega
  all_goals simp [Request.payload]

/-- The kind of a request that a payload spells is none of a reply or a report (R191). -/
theorem kind_lt {r : Request} (fits : r.fits = true) : r.kind.toNat < 0x80 := by
  cases r
  case unknown k =>
    obtain ⟨low, -⟩ := Bool.and_eq_true_iff.1 fits
    exact of_decide_eq_true low
  case badLength => cases fits
  all_goals
    simp only [Request.kind]
    decide

/-- The request that a well-formed request row stands for has fields that fit (log entry 28). -/
theorem request_fits {i : Instr} {q : Queued} (hq : queuedOf i = some q) (wf : i.wf = true) : q.req.fits = true := by
  cases i <;> cases hq <;> exact wf

end Machine
end Sys2Proof
end

section
/-! A frame on the Control Link (R189 to R192): its bytes judged and taken in HUNT, its request taken, waiting, dropped or answered
with BAD_LENGTH. -/

namespace Sys2Proof.Machine

section
variable {s : State} {f : Frame} {c : List Byte}

/-! ### The bytes of a frame (R189, R190) -/

/-- Bytes of a frame before its last are kept, and bring about nothing. -/
theorem linkBytes_kept {n : Byte} {bs mid : List Byte} (inside : s.clp.rx = .inFrame (n :: bs))
    (short : bs.length + mid.length < n.toNat + 4) :
    mid.foldl linkByte s = { s with clp := { s.clp with rx := .inFrame (n :: (bs ++ mid)) } } := by
  induction mid generalizing bs s with
  | nil =>
    rw [List.append_nil, clp_rx_self inside]
    rfl
  | cons b mid ih =>
    rw [List.length_cons] at short
    rw [List.foldl_cons, linkByte_of_push (inside ▸ push_kept (by omega)), List.append_cons bs b mid]
    exact ih rfl (by simp; omega)

/-- A frame received in HUNT is kept up to its last byte. -/
theorem linkBytes_opened {n : Byte} {mid : List Byte} (hunt : s.clp.rx = .hunt) (fits : n.toNat ≤ 248)
    (short : mid.length < n.toNat + 4) :
    (startByte :: n :: mid).foldl linkByte s = { s with clp := { s.clp with rx := .inFrame (n :: mid) } } := by
  rw [List.foldl_cons, linkByte_of_push (hunt ▸ push_start), List.foldl_cons, linkByte_of_push (push_length fits)]
  exact linkBytes_kept (bs := []) rfl (by simpa using short)

/-- The bytes of a frame received in HUNT have it judged by its CRC, and leave the assembler in HUNT (R190). -/
theorem linkBytes_judged (hunt : s.clp.rx = .hunt) (fits : f.payload.length ≤ 248) (hc : c.length = 2) :
    (startByte :: (f.body ++ c)).foldl linkByte s = applyLinkEvent (judgeFrame f.body c) s := by
  obtain ⟨high, low, rfl⟩ := List.length_eq_two.1 hc
  have length := length_byte fits
  have body : (f.body ++ [high, low]).take ((BitVec.ofNat 8 f.payload.length).toNat + 3) = f.body :=
    List.take_left' (by rw [length]; rfl)
  have crc : (f.body ++ [high, low]).drop ((BitVec.ofNat 8 f.payload.length).toNat + 3) = [high, low] :=
    List.drop_left' (by rw [length]; rfl)
  have before_last : f.body ++ [high, low] =
      BitVec.ofNat 8 f.payload.length :: ((f.kind :: f.tag :: f.payload ++ [high]) ++ [low]) := by simp [Frame.body]
  rw [before_last] at body crc ⊢
  rw [← List.cons_append, ← List.cons_append, List.foldl_append, linkBytes_opened hunt (by omega) (by simp [length]),
    List.foldl_cons, List.foldl_nil, linkByte_of_push (push_last (by simp [length])), body, crc]
  exact congrArg _ (clp_rx_self hunt)

/-- A whole frame is taken (R191). -/
theorem linkBytes_wire (hunt : s.clp.rx = .hunt) (fits : f.payload.length ≤ 248) :
    f.wire.foldl linkByte s = takeLinkFrame f s :=
  (linkBytes_judged hunt fits rfl).trans (congrArg (applyLinkEvent · s) (judgeFrame_wire f))

/-- A frame whose CRC does not match is a CRC error (R190). -/
theorem linkBytes_crcError (hunt : s.clp.rx = .hunt) (fits : f.payload.length ≤ 248) (hc : c.length = 2)
    (differs : c ≠ crcBytes (crcOf f.body)) : (startByte :: (f.body ++ c)).foldl linkByte s = countCrc s :=
  (linkBytes_judged hunt fits hc).trans (congrArg (applyLinkEvent · s) (if_neg differs.symm))

theorem takeLinkFrame_format (high : 128 ≤ f.kind.toNat) : takeLinkFrame f s = countFormat s := if_pos high

theorem takeLinkFrame_valid (low : f.kind.toNat < 128) : takeLinkFrame f s = validFrame f s := if_neg (not_le.2 low)

/-! ### A valid frame (R191) -/

/-- The valid frame counted, and the silence timer restarted with the link not silent (R191 steps 1 and 2). -/
def frameCounted (s : State) : State := { s with clp := { s.clp with
  silence := 0, silent := false
  counters := { s.clp.counters with
    valid := if s.clp.counters.valid < 4294967295 then s.clp.counters.valid + 1 else 4294967295 } } }

/-- The state in which a valid frame's request is offered: at the end of silence the permit is formed again (R191, R197). -/
def frameAccounted (s : State) : State := if s.clp.silent then formPermit (frameCounted s) else frameCounted s

theorem validFrame_eq (f : Frame) (s : State) :
    validFrame f s = offerRequest f.tag (Request.parse f.kind f.payload) (frameAccounted s) := rfl

theorem frameAccounted_linkFree (free : s.linkFree) : (frameAccounted s).linkFree := by
  unfold frameAccounted State.linkFree
  split <;> simpa [State.linkFree, frameCounted] using free

/-- CLP ends the event of a valid frame, so the transmitter has no further choice (R193). -/
theorem exec_validFrame (hunt : s.clp.rx = .hunt) (fits : f.payload.length ≤ 248) (low : f.kind.toNat < 128) :
    exec (.validFrame f.wire) s = .next (offerRequest f.tag (Request.parse f.kind f.payload) (frameAccounted s)) := by
  have taken : f.wire.foldl linkByte s = offerRequest f.tag (Request.parse f.kind f.payload) (frameAccounted s) := by
    rw [linkBytes_wire hunt fits, takeLinkFrame_valid low, validFrame_eq]
  exact (exec_event taken rfl).trans (congrArg _ (pump_settled _))

/-- The bytes of a request's frame act as the request's row after the frame's own accounting (R191, R202). -/
theorem exec_validFrame_request {i : Instr} {q : Queued} (hq : queuedOf i = some q) (wf : i.wf = true)
    (hunt : s.clp.rx = .hunt) :
    exec (.validFrame (Frame.wire ⟨q.req.kind, q.tag, q.req.payload⟩)) s = exec i (frameAccounted s) := by
  have fits : q.req.fits = true := request_fits hq wf
  rw [exec_validFrame hunt (payload_length_le fits) (kind_lt fits), exec_request hq, parse_payload fits]

/-- A payload length that does not fit the kind is answered with BAD_LENGTH (R192). -/
theorem exec_validFrame_badLength (hunt : s.clp.rx = .hunt) (fits : f.payload.length ≤ 248) (low : f.kind.toNat < 128)
    (bad : Request.parse f.kind f.payload = .badLength f.kind) (free : s.linkFree) :
    exec (.validFrame f.wire) s = .next (withReply ⟨f.kind + 0x80, f.tag, [0x11]⟩ (frameAccounted s)) := by
  rw [exec_validFrame hunt fits low, bad, offerRequest_free _ _ (frameAccounted_linkFree free)]
  rfl

/-! ### A request behind a full slot (R191, R192) -/

/-- While a reply waits behind a frame that is being sent, CLP neither takes nor sends. -/
theorem pump_full (tx : s.clp.tx ≠ none) (slot : s.clp.slot ≠ none) : pump s = s := by
  obtain ⟨g, sending⟩ := Option.ne_none_iff_exists'.1 tx
  unfold pump
  rw [takeNext_stays (.inl slot), startTx_busy sending, takeNext_stays (.inl slot)]

theorem offerRequest_waits (tx : s.clp.tx ≠ none) (slot : s.clp.slot ≠ none) (room : s.clp.buffer.length < 2) (q : Queued) :
    offerRequest q.tag q.req s = { s with clp := { s.clp with buffer := s.clp.buffer ++ [q] } } := by
  unfold offerRequest
  rw [if_pos room]
  exact pump_full tx slot

theorem offerRequest_dropped (tx : s.clp.tx ≠ none) (slot : s.clp.slot ≠ none) (full : 2 ≤ s.clp.buffer.length) (q : Queued) :
    offerRequest q.tag q.req s = { s with clp := { s.clp with counters := { s.clp.counters with
      dropped := if s.clp.counters.dropped < 4294967295 then s.clp.counters.dropped + 1 else 4294967295 } } } := by
  unfold offerRequest
  rw [if_neg (not_lt.2 full)]
  exact pump_full tx slot

end

/-- Settles O51: the frame is judged by its CRC and its kind, and a valid one offers the request that its payload spells. -/
theorem validFrameActsAsItsRequest : Obligations.ValidFrameActsAsItsRequest := by
  refine ⟨fun i q s u hq wf hunt hu => ?_, fun i q s hq tx slot => ⟨fun room => ?_, fun full => ?_⟩,
    fun s u f c hunt fits hu => ⟨fun hc differs => ?_, fun high => ?_, fun low bad free => ?_⟩⟩
  · subst hu
    obtain ⟨t, ht⟩ := exec_next i (frameAccounted s)
    exact ⟨t, (exec_validFrame_request hq wf hunt).trans ht, ht⟩
  · rw [exec_request hq, offerRequest_waits tx slot room]
  · rw [exec_request hq, offerRequest_dropped tx slot full]
  · exact exec_event (linkBytes_crcError (f := f) hunt fits hc differs) rfl
  · exact exec_event ((linkBytes_wire hunt fits).trans (takeLinkFrame_format high)) rfl
  · subst hu
    exact exec_validFrame_badLength hunt fits low bad free

end Sys2Proof.Machine
end

section
/-! The step on a queue with a command at its front. -/

namespace Sys2Proof.Machine

/-- Settles O1, by the law of a step on a queue with a front: the rest of the queue is the state's own. -/
theorem stepTakesFrontCommand : Obligations.StepTakesFrontCommand := by
  intro c s
  have own : { s with pending := s.pending } = s := rfl
  calc step { s with pending := c :: s.pending }
      = exec c { s with pending := s.pending } := step_cons c s.pending s
    _ = exec c s := by rw [own]

end Sys2Proof.Machine
end
